-- ==== Sys2Proof/Word.lean ====
section
/-! DEFINITION. Words, 128-bit values and register numbers (spec 00_scope.md R12, 10_state.md R18). -/

namespace Sys2Proof

/-- One 64-bit word (R10 `WLEN`). -/
abbrev Word := BitVec 64

/-- A 128-bit value: "exactly two unsigned 64-bit words", `hi` the more significant (R12). -/
structure Value where
  hi : Word
  lo : Word
  deriving DecidableEq, Repr

/-- The unsigned reading `v.hi * 2^64 + v.lo` (R12). -/
def Value.uval (v : Value) : Nat := v.hi.toNat * 2 ^ 64 + v.lo.toNat

/-- Bit 127, the sign bit of the signed reading: bit 63 of `hi` (R12). -/
def Value.sign (v : Value) : Bool := v.hi.getLsbD 63

/-- The signed, twos-complement reading (R12). -/
def Value.sval (v : Value) : Int :=
  if v.sign then (v.uval : Int) - 2 ^ 128 else (v.uval : Int)

/-- A register number, 0..7 (R18). -/
abbrev Reg := Fin 8

end Sys2Proof
end

