-- ==== Sys2Proof/Config.lean ====
section
/-! DEFINITION. What is fixed for the machine: the parameters of spec 00_scope.md R10 and R11 that the
model's text uses by name, and the register contents the model names for reset. -/

namespace Sys2Proof.Config

/-- `GAP_THRESHOLD`: the leading-zero gap above which the Knuth path is selected (R10; strict, R11). -/
def gapThreshold : Nat := 16

/-- `POW2_SUM`: the leading+trailing zero sum of a power of two (R10). -/
def pow2Sum : Nat := 127

/-- The contents of `V[i]` after reset. DESIGN CHOICE, unsafe (notes/assumptions/1.md): R20 gives no value and
forbids zero; the model names one value for each register, none of them zero and no two alike. -/
def vReset (i : Nat) : Value :=
  ⟨0xA5A5A5A5A5A5A5A5, 0x5A5A5A5A5A5A5A50 + BitVec.ofNat 64 i⟩

end Sys2Proof.Config
end

