-- ==== Sys2Proof/Machine/Primitives.lean ====
section
/-! DEFINITION. The named constants (spec 00_scope.md R13), `u128` (R14), the extensions to 128 bits, and the word
primitives of R15. -/

namespace Sys2Proof.Machine

/-- `ZERO` (R13). -/
def zero : Value := ⟨0, 0⟩
/-- `ONE` (R13). -/
def one : Value := ⟨0, 1⟩
/-- `MAXU` (R13). -/
def maxu : Value := ⟨0xFFFFFFFFFFFFFFFF, 0xFFFFFFFFFFFFFFFF⟩
/-- `MAXS` (R13). -/
def maxs : Value := ⟨0x7FFFFFFFFFFFFFFF, 0xFFFFFFFFFFFFFFFF⟩
/-- `MINS` (R13). -/
def mins : Value := ⟨0x8000000000000000, 0⟩

/-- `u128(n)`: the value whose unsigned reading is `n mod 2^128`, for any integer `n` (R14). -/
def u128 (n : Int) : Value :=
  let m := (n % 2 ^ 128).toNat
  ⟨BitVec.ofNat 64 (m / 2 ^ 64), BitVec.ofNat 64 m⟩

/-- `zext_128` of a word (R14). -/
def zext128 (x : Word) : Value := ⟨0, x⟩

/-- `sext_128` of a word: the high word is copies of its top bit (R14, R49). -/
def sext128 (x : Word) : Value := ⟨if x.getLsbD 63 then 0xFFFFFFFFFFFFFFFF else 0, x⟩

/-- `add64c(a, b, cin) -> (sum, cout)` (R15). -/
def add64c (a b : Word) (cin : Bool) : Word × Bool :=
  let t := a.toNat + b.toNat + cin.toNat
  (BitVec.ofNat 64 t, decide (t / 2 ^ 64 = 1))

/-- `sub64b(a, b, bin) -> (diff, bout)` (R15). -/
def sub64b (a b : Word) (bin : Bool) : Word × Bool :=
  let t : Int := (a.toNat : Int) - b.toNat - bin.toNat
  (BitVec.ofInt 64 t, decide (t < 0))

/-- `mul64x64(a, b) -> (h, l)`: the exact product (R15). -/
def mul64x64 (a b : Word) : Value :=
  let p := a.toNat * b.toNat
  ⟨BitVec.ofNat 64 (p / 2 ^ 64), BitVec.ofNat 64 p⟩

/-- `mullo64(a, b)` (R15). -/
def mullo64 (a b : Word) : Word := a * b

/-- `div64(a, b) -> (q, r)`; never called with `b = 0` (R15). -/
def div64 (a b : Word) : Word × Word := (a / b, a % b)

/-- `lz64(x)`: the number of zero bits above the highest set bit, 64 for a zero word (R15). -/
def lz64 (x : Word) : Nat := ((List.range 64).find? fun i => x.getLsbD (63 - i)).getD 64

/-- `tz64(x)`: the number of zero bits below the lowest set bit, 64 for a zero word (R15). -/
def tz64 (x : Word) : Nat := ((List.range 64).find? fun i => x.getLsbD i).getD 64

/-- `pop64(x)`: the number of set bits (R15). -/
def pop64 (x : Word) : Nat := (List.range 64).countP fun i => x.getLsbD i

/-- `shl64(x, n)`: its count is 0..63 by its type, so that it cannot be called outside R15's range. -/
def shl64 (x : Word) (n : Fin 64) : Word := x <<< n.val

/-- `shr64(x, n)`: as `shl64`, to the right (R15). -/
def shr64 (x : Word) (n : Fin 64) : Word := x >>> n.val

end Sys2Proof.Machine
end

