-- ==== Sys2Proof/Machine/Datapath.lean ====
section
/-! DEFINITION. The datapath units as pure functions of 128-bit values: adder/subtractor and multiplier (spec
41_addsub_mul.md), comparator (42_compare.md, 45_signed.md), logic, barrel shifter, bit counts and bit index
(43_bitwise_shift.md), sign converter (45_signed.md), narrowing predicates (46_convert.md). -/

namespace Sys2Proof.Machine

/-- A truth value as a register value: ONE or ZERO (R63). -/
def truth (b : Bool) : Value := if b then one else zero

/-- A count as a register value: `(0, count)` (R85). -/
def count (n : Nat) : Value := ⟨0, BitVec.ofNat 64 n⟩

/-! Adder/subtractor and multiplier. -/

/-- ADD: the carry of the low words enters the high words; the carry out of bit 127 is discarded (R55). -/
def add (a b : Value) : Value :=
  let low := add64c a.lo b.lo false
  let high := add64c a.hi b.hi low.2
  ⟨high.1, low.1⟩

/-- SUB: the borrow of the low words enters the high words; the borrow out of bit 127 is discarded (R56). -/
def sub (a b : Value) : Value :=
  let low := sub64b a.lo b.lo false
  let high := sub64b a.hi b.hi low.2
  ⟨high.1, low.1⟩

/-- INC: the carry-only fast path (R58). -/
def inc (a : Value) : Value :=
  let lo := a.lo + 1
  ⟨if lo = 0 then a.hi + 1 else a.hi, lo⟩

/-- DEC: the borrow-only fast path (R59). -/
def dec (a : Value) : Value :=
  ⟨if a.lo = 0 then a.hi - 1 else a.hi, a.lo - 1⟩

/-- MUL: the product of the low words with the two cross terms added into the high word (R60). -/
def mul (a b : Value) : Value :=
  let p := mul64x64 a.lo b.lo
  ⟨p.hi + mullo64 a.hi b.lo + mullo64 a.lo b.hi, p.lo⟩

/-- MULW: the exact product of the low words (R61). -/
def mulw (a b : Value) : Value := mul64x64 a.lo b.lo

/-! Comparator. -/

/-- The three-way unsigned compare, lexicographic on `(hi, lo)`: -1, 0 or +1 (R64). -/
def ucmp (a b : Value) : Int :=
  if a.hi < b.hi then -1
  else if b.hi < a.hi then 1
  else if a.lo < b.lo then -1
  else if b.lo < a.lo then 1
  else 0

/-- The three-way unsigned compare with a 64-bit operand (R71). -/
def ucmp64 (a : Value) (y : Word) : Int :=
  if a.hi ≠ 0 then 1
  else if a.lo < y then -1
  else if y < a.lo then 1
  else 0

/-- The three-way signed compare: equality, then the sign bits, then the unsigned compare (R129). -/
def scmp (a b : Value) : Int :=
  if a = b then 0
  else if a.sign ≠ b.sign then (if a.sign then -1 else 1)
  else ucmp a b

/-- EQ's test: bitwise equality of both words (R65). -/
def eqv (a b : Value) : Bool := a.hi == b.hi && a.lo == b.lo

/-! Logic, per word. -/

/-- NOT (R76). -/
def bitNot (a : Value) : Value := ⟨a.hi ^^^ 0xFFFFFFFFFFFFFFFF, a.lo ^^^ 0xFFFFFFFFFFFFFFFF⟩
/-- AND (R77). -/
def bitAnd (a b : Value) : Value := ⟨a.hi &&& b.hi, a.lo &&& b.lo⟩
/-- OR (R78). -/
def bitOr (a b : Value) : Value := ⟨a.hi ||| b.hi, a.lo ||| b.lo⟩
/-- XOR (R79). -/
def bitXor (a b : Value) : Value := ⟨a.hi ^^^ b.hi, a.lo ^^^ b.lo⟩

/-! Barrel shifter: the cases zero, below 64, exactly 64, below 128, 128 and more. -/

/-- Left shift by `n` (R80). -/
def shl (a : Value) (n : Nat) : Value :=
  if h0 : n = 0 then a
  else if h : n < 64 then
    ⟨shl64 a.hi ⟨n, h⟩ ||| shr64 a.lo ⟨64 - n, by omega⟩, shl64 a.lo ⟨n, h⟩⟩
  else if n = 64 then ⟨a.lo, 0⟩
  else if h : n < 128 then ⟨shl64 a.lo ⟨n - 64, by omega⟩, 0⟩
  else zero

/-- Logical right shift by `n` (R81). -/
def shr (a : Value) (n : Nat) : Value :=
  if h0 : n = 0 then a
  else if h : n < 64 then
    ⟨shr64 a.hi ⟨n, h⟩, shr64 a.lo ⟨n, h⟩ ||| shl64 a.hi ⟨64 - n, by omega⟩⟩
  else if n = 64 then ⟨0, a.hi⟩
  else if h : n < 128 then ⟨0, shr64 a.hi ⟨n - 64, by omega⟩⟩
  else zero

/-! Bit counts. -/

/-- Leading zeros, the high word first (R86). -/
def lzcnt (a : Value) : Nat := if a.hi ≠ 0 then lz64 a.hi else 64 + lz64 a.lo
/-- Trailing zeros, the low word first (R87, 90_conflicts.md C5). -/
def tzcnt (a : Value) : Nat := if a.lo ≠ 0 then tz64 a.lo else 64 + tz64 a.hi
/-- The number of set bits (R88). -/
def popcnt (a : Value) : Nat := pop64 a.hi + pop64 a.lo
/-- The bit length (R89). -/
def bitlen (a : Value) : Nat := if a.hi ≠ 0 then 128 - lz64 a.hi else 64 - lz64 a.lo

/-! Bit test, set and clear; an index of 128 or more is out of range. -/

/-- Bit `i` (R91). -/
def bit (a : Value) (i : Nat) : Bool :=
  if i < 64 then a.lo.getLsbD i
  else if i < 128 then a.hi.getLsbD (i - 64)
  else false

/-- `a` with bit `i` set (R93). -/
def bset (a : Value) (i : Nat) : Value :=
  if h : i < 64 then ⟨a.hi, a.lo ||| shl64 1 ⟨i, h⟩⟩
  else if h : i < 128 then ⟨a.hi ||| shl64 1 ⟨i - 64, by omega⟩, a.lo⟩
  else a

/-- `NOT64(x)` (R94). -/
def not64 (x : Word) : Word := x ^^^ 0xFFFFFFFFFFFFFFFF

/-- `a` with bit `i` cleared (R94). -/
def bclr (a : Value) (i : Nat) : Value :=
  if h : i < 64 then ⟨a.hi, a.lo &&& not64 (shl64 1 ⟨i, h⟩)⟩
  else if h : i < 128 then ⟨a.hi &&& not64 (shl64 1 ⟨i - 64, by omega⟩), a.lo⟩
  else a

/-! Sign converter. -/

/-- The sign -1, 0 or +1 (R125). -/
def sgn (a : Value) : Int := if a.sign then -1 else if a = zero then 0 else 1

/-- Twos-complement negation: not, plus one, with the carry into the high word (R126). -/
def neg (a : Value) : Value :=
  let low := add64c (a.lo ^^^ 0xFFFFFFFFFFFFFFFF) 0 true
  let high := add64c (a.hi ^^^ 0xFFFFFFFFFFFFFFFF) 0 low.2
  ⟨high.1, low.1⟩

/-- Absolute value and unsigned magnitude, the same datapath (R127, R128). -/
def magnitude (a : Value) : Value := if a.sign then neg a else a

/-! Narrowing predicates. -/

/-- Fits in an unsigned 64-bit integer (R139). -/
def fitsUnsigned (a : Value) : Bool := a.hi == 0

/-- Fits in a signed 64-bit integer (R140). -/
def fitsSigned (a : Value) : Bool :=
  if a.hi = 0 ∧ a.lo.getLsbD 63 = false then true
  else if a.hi = 0xFFFFFFFFFFFFFFFF ∧ a.lo.getLsbD 63 = true then true
  else false

end Sys2Proof.Machine
end

