-- ==== Sys2Proof/Machine/Division.lean ====
section
/-! DEFINITION. The division engine (spec 44_divide.md): what it computes (R98), the branch its selection policy takes
(R100), and, beside it, the routines of the branches (R101 to R110) with the engine that runs them. -/

namespace Sys2Proof.Machine

/-- The branches of the selection policy (R25, R100). -/
inductive DivPath where
  /-- Step 2: the divisor is one. -/
  | divisorOne
  /-- Step 3: both high words zero, native 64-bit division. -/
  | native
  /-- Step 4: the divisor is a power of two. -/
  | powerOfTwo
  /-- Step 5: dividend < divisor. -/
  | less
  /-- Step 6: dividend == divisor. -/
  | equal
  /-- Step 7: large gap, divisor high word zero. -/
  | knuth64
  /-- Step 7: large gap, divisor high word non-zero. -/
  | knuth128
  /-- Step 7: small gap. -/
  | binary
  deriving DecidableEq, Repr

/-- The DPATH code of a branch (R25). -/
def pathCode (p : DivPath) : BitVec 4 :=
  match p with
  | .divisorOne => 1
  | .native => 2
  | .powerOfTwo => 3
  | .less => 4
  | .equal => 5
  | .knuth64 => 6
  | .knuth128 => 7
  | .binary => 8

/-- What one run of the engine returns (R100). -/
structure DivResult where
  q : Value
  r : Value
  path : DivPath
  deriving DecidableEq, Repr

/-- The branch taken for a non-zero divisor `b` (R100 steps 2 to 7; 90_conflicts.md C3, C4). The gap of step 7 is
not negative, so the subtraction is exact (R106). -/
def selectPath (a b : Value) : DivPath :=
  if b = one then .divisorOne
  else if a.hi = 0 ∧ b.hi = 0 then .native
  else if lzcnt b + tzcnt b = Config.pow2Sum then .powerOfTwo
  else if a.uval < b.uval then .less
  else if a = b then .equal
  else if lzcnt b - lzcnt a > Config.gapThreshold then
    (if b.hi = 0 then .knuth64 else .knuth128)
  else .binary

/-- `udivmod(a, b)`: none when the divisor is ZERO (R99); else the quotient and remainder as R98 defines them and the
branch as R100 selects it. -/
def udivmod (a b : Value) : Option DivResult :=
  if b = zero then none
  else some ⟨u128 (a.uval / b.uval : Nat), u128 (a.uval % b.uval : Nat), selectPath a b⟩

/-- `sdivmod(A, B)`: the unsigned engine on the magnitudes; the quotient takes the XOR of the signs, the remainder the
dividend's sign (R117). -/
def sdivmod (a b : Value) : Option DivResult :=
  (udivmod (magnitude a) (magnitude b)).map fun d =>
    ⟨if a.sign ≠ b.sign then neg d.q else d.q, if a.sign then neg d.r else d.r, d.path⟩

/-! The routines of the branches. `udivmod` above is bound by R98 alone ("A model should define `q` and `r` by this rule
and prove each path … equal to it"); that each routine agrees with it is stated in the obligations. -/

/-- The correction loop of one quotient digit, at most `fuel` rounds (R107). -/
def correctDigit (vn1 vn0 un : Nat) : Nat → Nat → Nat → Nat
  | 0, q, _ => q
  | fuel + 1, q, rhat =>
    if 2 ^ 32 ≤ q ∨ rhat * 2 ^ 32 + un < q * vn0 then
      if 2 ^ 32 ≤ rhat + vn1 then q - 1
      else correctDigit vn1 vn0 un fuel (q - 1) (rhat + vn1)
    else q

/-- One 32-bit quotient digit of `un * 2^32 + next` by the normalised divisor with digits `vn1`, `vn0`: the estimate,
corrected at most twice (R107). -/
def quotientDigit (vn1 vn0 un next : Nat) : Nat :=
  correctDigit vn1 vn0 next 2 (un / vn1) (un - un / vn1 * vn1)

/-- `div128by64(u1, u0, v) -> (q, r)`, for `v != 0` and `u1 < v` (R107). -/
def div128by64 (u1 u0 v : Word) : Word × Word :=
  let s := lz64 v
  let vn := if h : 0 < s ∧ s < 64 then shl64 v ⟨s, h.2⟩ else v
  let un32 := if h : 0 < s ∧ s < 64 then shl64 u1 ⟨s, h.2⟩ ||| shr64 u0 ⟨64 - s, by omega⟩ else u1
  let un10 := if h : 0 < s ∧ s < 64 then shl64 u0 ⟨s, h.2⟩ else u0
  let vn1 := vn.toNat / 2 ^ 32
  let vn0 := vn.toNat % 2 ^ 32
  let un1 := un10.toNat / 2 ^ 32
  let un0 := un10.toNat % 2 ^ 32
  let q1 := quotientDigit vn1 vn0 un32.toNat un1
  let un21 := ((((un32.toNat * 2 ^ 32 + un1 : Nat) : Int) - (q1 * vn.toNat : Nat)) % 2 ^ 64).toNat
  let q0 := quotientDigit vn1 vn0 un21 un0
  let rn := BitVec.ofInt 64 (((un21 * 2 ^ 32 + un0 : Nat) : Int) - (q0 * vn.toNat : Nat))
  (BitVec.ofNat 64 (q1 * 2 ^ 32 + q0), if h : 0 < s ∧ s < 64 then shr64 rn ⟨s, h.2⟩ else rn)

/-- Path 6, `knuth128by64(a, v) -> (q, r)` (R108). -/
def knuth128by64 (a : Value) (v : Word) : Value × Word :=
  let high := div64 a.hi v
  let low := div128by64 high.2 a.lo v
  (⟨high.1, low.1⟩, low.2)

/-- Path 7, `knuth128by128(a, b) -> (q, r)`, for `b.hi != 0` (R109). -/
def knuth128by128 (a b : Value) : Value × Value :=
  let s := lz64 b.hi
  let v1 := (shl b s).hi
  let u := shr a 1
  let q1 := (div128by64 u.hi u.lo v1).1
  let q := shr64 q1 ⟨63 - s, by omega⟩
  let q := if q ≠ 0 then q - 1 else q
  let r := sub a (mul b ⟨0, q⟩)
  if b.uval ≤ r.uval then (⟨0, q + 1⟩, sub r b) else (⟨0, q⟩, r)

/-- The loop of the binary path: `n` rounds from quotient `q`, remainder `r` and shifted divisor `d` (R110). -/
def binaryLoop : Nat → Value → Value → Value → Value × Value
  | 0, q, r, _ => (q, r)
  | n + 1, q, r, d =>
    if d.uval ≤ r.uval then binaryLoop n (bitOr (shl q 1) one) (sub r d) (shr d 1)
    else binaryLoop n (shl q 1) r (shr d 1)

/-- Path 8, `binarydiv(a, b) -> (q, r)`, for `uval(a) >= uval(b) > 0` (R110). -/
def binarydiv (a b : Value) : Value × Value :=
  let shift := lzcnt b - lzcnt a
  binaryLoop (shift + 1) zero a (shl b shift)

/-- The routine of each branch (R101 to R105, R108 to R110). -/
def runPath (p : DivPath) (a b : Value) : Value × Value :=
  match p with
  | .divisorOne => (a, zero)
  | .native => let d := div64 a.lo b.lo; (⟨0, d.1⟩, ⟨0, d.2⟩)
  | .powerOfTwo => (shr a (tzcnt b), bitAnd a (dec b))
  | .less => (zero, a)
  | .equal => (one, zero)
  | .knuth64 => let d := knuth128by64 a b.lo; (d.1, ⟨0, d.2⟩)
  | .knuth128 => knuth128by128 a b
  | .binary => binarydiv a b

/-- The engine as the pseudocode of R100 writes it: select the branch, then run its routine. -/
def udivmodByPolicy (a b : Value) : Option DivResult :=
  if b = zero then none
  else
    let p := selectPath a b
    let d := runPath p a b
    some ⟨d.1, d.2, p⟩

end Sys2Proof.Machine
end

