-- ==== Sys2Proof/Machine/State.lean ====
section
/-! DEFINITION. The state of the machine (spec 10_state.md), the reasons a step can stop, and the state after reset. -/

namespace Sys2Proof.Machine

/-- What the host does next at CORE's ports (R22, R28, R29, R153). -/
inductive HostEvent where
  /-- Present the command word `cmd` with the data-in pair `din` (R29). -/
  | command (cmd : BitVec 32) (din : Value)
  /-- Assert the RESET pin (R153). -/
  | assertReset
  /-- Release the RESET pin (R153). -/
  | releaseReset
  deriving DecidableEq, Repr

/-- The machine state. `v`, `status` and `fcmd` are all the state the spec gives CORE (10_state.md section 1); the other
fields are the ports at the transaction level and the host's pending actions (notes/assumptions/2.md, 4.md). -/
structure State where
  /-- The value registers `V[0..7]` (R18). -/
  v : Vector Value 8
  /-- `STATUS` (R24). -/
  status : BitVec 32
  /-- `FCMD`, the faulting command word (R26). -/
  fcmd : BitVec 32
  /-- The level of the RESET pin: true while it is asserted (R153). -/
  resetPin : Bool
  /-- CMD as most recently sampled (R28, R29). -/
  cmd : BitVec 32
  /-- The DIN pair sampled with `cmd` (R28, R29). -/
  din : Value
  /-- The DOUT pair of the most recent step's response; absent when the response is empty (R29). -/
  dout : Option Value
  /-- What the host does next, oldest first (R22). -/
  input : List HostEvent
  deriving DecidableEq, Repr

/-- The reasons a step stops the machine. There are none: the two faults of R141 are fault entries, which are next
states (R146), nothing else faults (R144), and CORE cannot hang (R157). -/
inductive Fault where
  deriving DecidableEq, Repr

/-- The reasons an instruction is refused. -/
inductive Refusal where
  /-- An instruction of the opcode table that has no meaning in the model. Raised by an arm of `exec` only; safe, since
  nothing is claimed of such an instruction. No arm raises it: all 71 instructions have their meaning. -/
  | notModelled (mnemonic : String)
  deriving DecidableEq, Repr

/-- The value registers after reset: the values `Config.vReset` names (R20, notes/assumptions/1.md). -/
def resetRegisters : Vector Value 8 := Vector.ofFn fun i => Config.vReset i.val

/-- The machine right after reset, as R154 gives it: STATUS and FCMD are 0 and RESET is released. No host action is
pending, and no transaction has taken place. -/
def State.reset : State where
  v := resetRegisters
  status := 0
  fcmd := 0
  resetPin := false
  cmd := 0
  din := ⟨0, 0⟩
  dout := none
  input := []

end Sys2Proof.Machine
end

