-- ==== Sys2Proof/Machine/Flags.lean ====
section
/-! DEFINITION. The fields of STATUS (spec 10_state.md R24). CORE has no condition codes (R23): these fields are the
only status bits it has. -/

namespace Sys2Proof.Machine

/-- Bit 0 of STATUS: CORE is in the fault state (R24). -/
def statusFault (st : BitVec 32) : Bool := st.getLsbD 0

/-- Bits 3:1 of STATUS, CAUSE (R24). -/
def statusCause (st : BitVec 32) : BitVec 3 := st.extractLsb' 1 3

/-- Bits 7:4 of STATUS, DPATH (R24, R25). -/
def statusDpath (st : BitVec 32) : BitVec 4 := st.extractLsb' 4 4

/-- Bits 31:8 of STATUS, reserved, read as 0 (R24). -/
def statusReserved (st : BitVec 32) : BitVec 24 := st.extractLsb' 8 24

/-- STATUS with FAULT set and CAUSE written, the other bits kept (R146). -/
def statusWithFault (cause : BitVec 3) (st : BitVec 32) : BitVec 32 :=
  statusReserved st ++ statusDpath st ++ cause ++ (1 : BitVec 1)

/-- STATUS with DPATH written, the other bits kept (R24, R111). -/
def statusWithDpath (path : BitVec 4) (st : BitVec 32) : BitVec 32 :=
  statusReserved st ++ path ++ st.extractLsb' 0 4

/-- The FAULT pin, equal to `STATUS.FAULT` at all times (R28). -/
def State.faultPin (s : State) : Bool := statusFault s.status

/-- CORE is in the fault state (R24, R147). -/
def State.faulted (s : State) : Bool := statusFault s.status

/-- The causes a fault can have (R141). -/
inductive FaultCause where
  | divideByZero
  | illegalCommand
  deriving DecidableEq, Repr

/-- The cause code of a fault (R141). -/
def causeCode (c : FaultCause) : BitVec 3 :=
  match c with
  | .divideByZero => 1
  | .illegalCommand => 2

end Sys2Proof.Machine
end

