-- ==== Sys2Proof/Machine/Ops.lean ====
section
/-! DEFINITION. The operations over the state that the meanings share: register reads and writes, the response, fault
entry and reset, and the shape of a command (spec 00_scope.md R16, 10_state.md R19, R29, 60_exceptions.md R146, R147,
70_reset_and_hazards.md R153). -/

namespace Sys2Proof.Machine

/-- `V[r]` (R14, R18). No register is hard-wired. -/
def State.readV (s : State) (r : Reg) : Value := s.v[r.val]

/-- `V[r] <- x` (R14, R18): the whole 128-bit register. -/
def State.writeV (s : State) (r : Reg) (x : Value) : State := { s with v := s.v.set r.val x }

/-- Sets the response of the transaction; `none` is the empty response (R29). -/
def State.respond (s : State) (d : Option Value) : State := { s with dout := d }

/-- `STATUS <- st`. -/
def State.setStatus (s : State) (st : BitVec 32) : State := { s with status := st }

/-- `FCMD <- w`. -/
def State.setFcmd (s : State) (w : BitVec 32) : State := { s with fcmd := w }

/-- Fault entry, `raise Fault(cause)`: STATUS.FAULT and STATUS.CAUSE are written, FCMD takes the command word, the
response is empty, and nothing else changes (R146). -/
def raiseFault (c : FaultCause) (s : State) : State :=
  ((s.setStatus (statusWithFault (causeCode c) s.status)).setFcmd s.cmd).respond none

/-- The only exit from the fault state: what RESET does to the state (R148, R153, R154). The value registers take the
values the model names for reset (notes/assumptions/1.md). The ports and the host's pending actions are not CORE's. -/
def resetCore (s : State) : State :=
  { s with v := resetRegisters, status := 0, fcmd := 0, dout := none }

/-- A command outside the fault state has its effect; in the fault state it is ignored and has no response (R147). -/
def unlessFaulted (effect : State → State) (s : State) : Host.Outcome State Fault Refusal :=
  .next (if s.faulted then s.respond none else effect s)

/-- The end of a command with one result: `V[rd] <- x`, empty response (R16, R29). -/
def finish (rd : Reg) (x : Value) (s : State) : State := (s.writeV rd x).respond none

/-- An illegal command word: fault entry with cause 2, unless CORE is in the fault state (R143, R145). -/
def illegalCommand (s : State) : Host.Outcome State Fault Refusal :=
  unlessFaulted (raiseFault .illegalCommand) s

/-- `STATUS.DPATH <- path` of a completed division (R24, R25). -/
def setDpath (p : DivPath) (s : State) : State :=
  s.setStatus (statusWithDpath (pathCode p) s.status)

/-- A division command on what the engine returned: DivideByZero when it returned nothing (R99, R142); else the
destinations are written and DPATH records the branch (R111 to R113, R118 to R120). -/
def finishDivision (d : Option DivResult) (write : DivResult → State → State) (s : State) : State :=
  match d with
  | none => raiseFault .divideByZero s
  | some d => setDpath d.path (write d s)

/-- The two destinations of a combined divide, the quotient first (R113, R120). -/
def finishBoth (rd rd2 : Reg) (q r : Value) (s : State) : State :=
  ((s.writeV rd q).writeV rd2 r).respond none

/-- A combined divide: IllegalCommand when the destinations are the same register, decided before any register is read
(R113, R145); else the division. -/
def combinedDivision (rd rd2 : Reg) (engine : State → Option DivResult) (s : State) : State :=
  if rd = rd2 then raiseFault .illegalCommand s
  else finishDivision (engine s) (fun d => finishBoth rd rd2 d.q d.r) s

end Sys2Proof.Machine
end

