-- ==== Sys2Proof/Machine/Operands.lean ====
section
/-! DEFINITION. The operand forms (spec 30_encoding.md R39, R40, R41). -/

namespace Sys2Proof.Machine

/-- The second operand of an unsigned 64-bit entry form, `zext_128(V[rs2].lo)` (R41). -/
def State.readZext (s : State) (r : Reg) : Value := zext128 (s.readV r).lo

/-- The second operand of a signed 64-bit entry form, `sext_128(V[rs2].lo)` (R41). -/
def State.readSext (s : State) (r : Reg) : Value := sext128 (s.readV r).lo

/-- A register-supplied count or index: the whole register read as unsigned (R40). -/
def State.readCount (s : State) (r : Reg) : Nat := (s.readV r).uval

/-- An immediate count or index: `imm12`, unsigned, used as is (R39). -/
def immCount (imm : BitVec 12) : Nat := imm.toNat

/-- A command `V[rd] <- f(V[rs1])`. -/
def unary (f : Value → Value) (rd rs1 : Reg) (s : State) : Host.Outcome State Fault Refusal :=
  unlessFaulted (fun s => finish rd (f (s.readV rs1)) s) s

/-- A command `V[rd] <- f(V[rs1], V[rs2])`. -/
def binary (f : Value → Value → Value) (rd rs1 rs2 : Reg) (s : State) : Host.Outcome State Fault Refusal :=
  unlessFaulted (fun s => finish rd (f (s.readV rs1) (s.readV rs2)) s) s

/-- A command `V[rd] <- f(V[rs1], sext_128(V[rs2].lo))`. -/
def binarySext (f : Value → Value → Value) (rd rs1 rs2 : Reg) (s : State) : Host.Outcome State Fault Refusal :=
  unlessFaulted (fun s => finish rd (f (s.readV rs1) (s.readSext rs2)) s) s

/-- A command `V[rd] <- f(V[rs1], n)` with the count or index in a register. -/
def counted (f : Value → Nat → Value) (rd rs1 rs2 : Reg) (s : State) : Host.Outcome State Fault Refusal :=
  unlessFaulted (fun s => finish rd (f (s.readV rs1) (s.readCount rs2)) s) s

/-- A command `V[rd] <- f(V[rs1], n)` with an immediate count or index. -/
def countedImm (f : Value → Nat → Value) (rd rs1 : Reg) (imm : BitVec 12) (s : State) :
    Host.Outcome State Fault Refusal :=
  unlessFaulted (fun s => finish rd (f (s.readV rs1) (immCount imm)) s) s

end Sys2Proof.Machine
end

