-- ==== Sys2Proof/Machine/AddSubMul.lean ====
section
/-! DEFINITION. The adder/subtractor and the multiplier (spec 41_addsub_mul.md R55 to R61). -/

namespace Sys2Proof.Machine

/-- ADD (R55); signed add is the same command (R57). -/
def execAdd (rd rs1 rs2 : Reg) (s : State) : Host.Outcome State Fault Refusal :=
  binary add rd rs1 rs2 s

/-- SUB (R56); signed subtract is the same command (R57). -/
def execSub (rd rs1 rs2 : Reg) (s : State) : Host.Outcome State Fault Refusal :=
  binary sub rd rs1 rs2 s

/-- MUL: the low 128 bits of the product (R60). -/
def execMul (rd rs1 rs2 : Reg) (s : State) : Host.Outcome State Fault Refusal :=
  binary mul rd rs1 rs2 s

/-- MULW: the full product of the two low words (R61). -/
def execMulw (rd rs1 rs2 : Reg) (s : State) : Host.Outcome State Fault Refusal :=
  binary mulw rd rs1 rs2 s

/-- INC (R58). -/
def execInc (rd rs1 : Reg) (s : State) : Host.Outcome State Fault Refusal :=
  unary inc rd rs1 s

/-- DEC (R59). -/
def execDec (rd rs1 : Reg) (s : State) : Host.Outcome State Fault Refusal :=
  unary dec rd rs1 s

end Sys2Proof.Machine
end

