-- ==== Sys2Proof/Machine/BitwiseShift.lean ====
section
/-! DEFINITION. Bitwise logic, barrel shifter, bit counts, bit index (spec 43_bitwise_shift.md R76 to R97). -/

namespace Sys2Proof.Machine

/-- NOT (R76). -/
def execNot (rd rs1 : Reg) (s : State) : Host.Outcome State Fault Refusal :=
  unary bitNot rd rs1 s

/-- AND (R77). -/
def execAnd (rd rs1 rs2 : Reg) (s : State) : Host.Outcome State Fault Refusal :=
  binary bitAnd rd rs1 rs2 s

/-- OR (R78). -/
def execOr (rd rs1 rs2 : Reg) (s : State) : Host.Outcome State Fault Refusal :=
  binary bitOr rd rs1 rs2 s

/-- XOR (R79). -/
def execXor (rd rs1 rs2 : Reg) (s : State) : Host.Outcome State Fault Refusal :=
  binary bitXor rd rs1 rs2 s

/-- SHL, count in a register (R80). -/
def execShl (rd rs1 rs2 : Reg) (s : State) : Host.Outcome State Fault Refusal :=
  counted shl rd rs1 rs2 s

/-- SHR, logical, count in a register (R81). -/
def execShr (rd rs1 rs2 : Reg) (s : State) : Host.Outcome State Fault Refusal :=
  counted shr rd rs1 rs2 s

/-- SHLI: SHL with `n = imm12` (R82). -/
def execShli (rd rs1 : Reg) (imm : BitVec 12) (s : State) : Host.Outcome State Fault Refusal :=
  countedImm shl rd rs1 imm s

/-- SHRI: SHR with `n = imm12` (R83). -/
def execShri (rd rs1 : Reg) (imm : BitVec 12) (s : State) : Host.Outcome State Fault Refusal :=
  countedImm shr rd rs1 imm s

/-- LZCNT (R85, R86). -/
def execLzcnt (rd rs1 : Reg) (s : State) : Host.Outcome State Fault Refusal :=
  unary (fun a => count (lzcnt a)) rd rs1 s

/-- TZCNT (R85, R87). -/
def execTzcnt (rd rs1 : Reg) (s : State) : Host.Outcome State Fault Refusal :=
  unary (fun a => count (tzcnt a)) rd rs1 s

/-- POPCNT (R85, R88). -/
def execPopcnt (rd rs1 : Reg) (s : State) : Host.Outcome State Fault Refusal :=
  unary (fun a => count (popcnt a)) rd rs1 s

/-- BITLEN (R85, R89). -/
def execBitlen (rd rs1 : Reg) (s : State) : Host.Outcome State Fault Refusal :=
  unary (fun a => count (bitlen a)) rd rs1 s

/-- BIT, index in a register (R91). -/
def execBit (rd rs1 rs2 : Reg) (s : State) : Host.Outcome State Fault Refusal :=
  counted (fun a i => truth (bit a i)) rd rs1 rs2 s

/-- BITI: BIT with `i = imm12` (R92). -/
def execBiti (rd rs1 : Reg) (imm : BitVec 12) (s : State) : Host.Outcome State Fault Refusal :=
  countedImm (fun a i => truth (bit a i)) rd rs1 imm s

/-- BSET, index in a register (R93). -/
def execBset (rd rs1 rs2 : Reg) (s : State) : Host.Outcome State Fault Refusal :=
  counted bset rd rs1 rs2 s

/-- BCLR, index in a register (R94). -/
def execBclr (rd rs1 rs2 : Reg) (s : State) : Host.Outcome State Fault Refusal :=
  counted bclr rd rs1 rs2 s

/-- BSETI: BSET with `i = imm12` (R95). -/
def execBseti (rd rs1 : Reg) (imm : BitVec 12) (s : State) : Host.Outcome State Fault Refusal :=
  countedImm bset rd rs1 imm s

/-- BCLRI: BCLR with `i = imm12` (R96). -/
def execBclri (rd rs1 : Reg) (imm : BitVec 12) (s : State) : Host.Outcome State Fault Refusal :=
  countedImm bclr rd rs1 imm s

end Sys2Proof.Machine
end

