-- ==== Sys2Proof/Syntax.lean ====
section
/-! DEFINITION. The instruction syntax: one constructor per row of spec/opcode_table.json, in its order
(spec 30_encoding.md R38, R42). A field is the one the row's format names: register numbers `rd`, `rd2`, `rs1`,
`rs2` and the 12-bit immediate. -/

namespace Sys2Proof

/-- The 71 commands of CORE (R42). -/
inductive Instr where
  /-- SETC, op 0x01, format D (R47). -/
  | setc (rd : Reg)
  /-- SETU, op 0x02, format D (R48). -/
  | setu (rd : Reg)
  /-- SETS, op 0x03, format D (R49). -/
  | sets (rd : Reg)
  /-- LDK, op 0x04, format K (R50). -/
  | ldk (rd : Reg) (k : BitVec 12)
  /-- MOV, op 0x05, format U (R51). -/
  | mov (rd rs1 : Reg)
  /-- GETC, op 0x06, format S (R52). -/
  | getc (rs1 : Reg)
  /-- GETLO, op 0x07, format S (R53). -/
  | getlo (rs1 : Reg)
  /-- RDST, op 0x08, format Z (R54). -/
  | rdst
  /-- FITU64, op 0x09, format U (R139). -/
  | fitu64 (rd rs1 : Reg)
  /-- FITS64, op 0x0A, format U (R140). -/
  | fits64 (rd rs1 : Reg)
  /-- ADD, op 0x10, format R (R55). -/
  | add (rd rs1 rs2 : Reg)
  /-- SUB, op 0x11, format R (R56). -/
  | sub (rd rs1 rs2 : Reg)
  /-- MUL, op 0x12, format R (R60). -/
  | mul (rd rs1 rs2 : Reg)
  /-- MULW, op 0x13, format R (R61). -/
  | mulw (rd rs1 rs2 : Reg)
  /-- INC, op 0x14, format U (R58). -/
  | inc (rd rs1 : Reg)
  /-- DEC, op 0x15, format U (R59). -/
  | dec (rd rs1 : Reg)
  /-- UCMP, op 0x20, format R (R64). -/
  | ucmp (rd rs1 rs2 : Reg)
  /-- EQ, op 0x21, format R (R65). -/
  | eq (rd rs1 rs2 : Reg)
  /-- ULT, op 0x22, format R (R66). -/
  | ult (rd rs1 rs2 : Reg)
  /-- ULE, op 0x23, format R (R67). -/
  | ule (rd rs1 rs2 : Reg)
  /-- UGT, op 0x24, format R (R68). -/
  | ugt (rd rs1 rs2 : Reg)
  /-- UGE, op 0x25, format R (R69). -/
  | uge (rd rs1 rs2 : Reg)
  /-- SCMP, op 0x30, format R (R129). -/
  | scmp (rd rs1 rs2 : Reg)
  /-- SLT, op 0x32, format R (R130). -/
  | slt (rd rs1 rs2 : Reg)
  /-- SLE, op 0x33, format R (R131). -/
  | sle (rd rs1 rs2 : Reg)
  /-- SGT, op 0x34, format R (R132). -/
  | sgt (rd rs1 rs2 : Reg)
  /-- SGE, op 0x35, format R (R133). -/
  | sge (rd rs1 rs2 : Reg)
  /-- NOT, op 0x40, format U (R76). -/
  | not (rd rs1 : Reg)
  /-- AND, op 0x41, format R (R77). -/
  | and (rd rs1 rs2 : Reg)
  /-- OR, op 0x42, format R (R78). -/
  | or (rd rs1 rs2 : Reg)
  /-- XOR, op 0x43, format R (R79). -/
  | xor (rd rs1 rs2 : Reg)
  /-- SHL, op 0x48, format R (R80). -/
  | shl (rd rs1 rs2 : Reg)
  /-- SHR, op 0x49, format R (R81). -/
  | shr (rd rs1 rs2 : Reg)
  /-- SHLI, op 0x4A, format I (R82). -/
  | shli (rd rs1 : Reg) (imm : BitVec 12)
  /-- SHRI, op 0x4B, format I (R83). -/
  | shri (rd rs1 : Reg) (imm : BitVec 12)
  /-- LZCNT, op 0x50, format U (R86). -/
  | lzcnt (rd rs1 : Reg)
  /-- TZCNT, op 0x51, format U (R87). -/
  | tzcnt (rd rs1 : Reg)
  /-- POPCNT, op 0x52, format U (R88). -/
  | popcnt (rd rs1 : Reg)
  /-- BITLEN, op 0x53, format U (R89). -/
  | bitlen (rd rs1 : Reg)
  /-- BIT, op 0x54, format R (R91). -/
  | bit (rd rs1 rs2 : Reg)
  /-- BITI, op 0x55, format I (R92). -/
  | biti (rd rs1 : Reg) (imm : BitVec 12)
  /-- BSET, op 0x56, format R (R93). -/
  | bset (rd rs1 rs2 : Reg)
  /-- BCLR, op 0x57, format R (R94). -/
  | bclr (rd rs1 rs2 : Reg)
  /-- BSETI, op 0x58, format I (R95). -/
  | bseti (rd rs1 : Reg) (imm : BitVec 12)
  /-- BCLRI, op 0x59, format I (R96). -/
  | bclri (rd rs1 : Reg) (imm : BitVec 12)
  /-- UDIV, op 0x60, format R (R111). -/
  | udiv (rd rs1 rs2 : Reg)
  /-- UMOD, op 0x61, format R (R112). -/
  | umod (rd rs1 rs2 : Reg)
  /-- UDIVMOD, op 0x62, format Q (R113). -/
  | udivmod (rd rd2 rs1 rs2 : Reg)
  /-- SDIV, op 0x64, format R (R118). -/
  | sdiv (rd rs1 rs2 : Reg)
  /-- SMOD, op 0x65, format R (R119). -/
  | smod (rd rs1 rs2 : Reg)
  /-- SDIVMOD, op 0x66, format Q (R120). -/
  | sdivmod (rd rd2 rs1 rs2 : Reg)
  /-- SIGN, op 0x70, format U (R125). -/
  | sign (rd rs1 : Reg)
  /-- NEG, op 0x71, format U (R126). -/
  | neg (rd rs1 : Reg)
  /-- ABS, op 0x72, format U (R127). -/
  | abs (rd rs1 : Reg)
  /-- ABSU, op 0x73, format U (R128). -/
  | absu (rd rs1 : Reg)
  /-- UCMP64, op 0xA0, format R (R71). -/
  | ucmp64 (rd rs1 rs2 : Reg)
  /-- ULT64, op 0xA2, format R (R72). -/
  | ult64 (rd rs1 rs2 : Reg)
  /-- ULE64, op 0xA3, format R (R73). -/
  | ule64 (rd rs1 rs2 : Reg)
  /-- UGT64, op 0xA4, format R (R74). -/
  | ugt64 (rd rs1 rs2 : Reg)
  /-- UGE64, op 0xA5, format R (R75). -/
  | uge64 (rd rs1 rs2 : Reg)
  /-- SCMP64, op 0xB0, format R (R134). -/
  | scmp64 (rd rs1 rs2 : Reg)
  /-- SLT64, op 0xB2, format R (R135). -/
  | slt64 (rd rs1 rs2 : Reg)
  /-- SLE64, op 0xB3, format R (R136). -/
  | sle64 (rd rs1 rs2 : Reg)
  /-- SGT64, op 0xB4, format R (R137). -/
  | sgt64 (rd rs1 rs2 : Reg)
  /-- SGE64, op 0xB5, format R (R138). -/
  | sge64 (rd rs1 rs2 : Reg)
  /-- UDIV64, op 0xE0, format R (R114). -/
  | udiv64 (rd rs1 rs2 : Reg)
  /-- UMOD64, op 0xE1, format R (R115). -/
  | umod64 (rd rs1 rs2 : Reg)
  /-- UDIVMOD64, op 0xE2, format Q (R116). -/
  | udivmod64 (rd rd2 rs1 rs2 : Reg)
  /-- SDIV64, op 0xE4, format R (R121). -/
  | sdiv64 (rd rs1 rs2 : Reg)
  /-- SMOD64, op 0xE5, format R (R122). -/
  | smod64 (rd rs1 rs2 : Reg)
  /-- SDIVMOD64, op 0xE6, format Q (R123). -/
  | sdivmod64 (rd rd2 rs1 rs2 : Reg)
  deriving DecidableEq, Repr

/-- The eight formats of R38. -/
inductive Format where
  | Z | D | K | S | U | R | I | Q
  deriving DecidableEq, Repr

end Sys2Proof
end

