-- ==== Sys2Proof/Machine/ConstructMove.lean ====
section
/-! DEFINITION. Construction, moves and accessors (spec 40_construct_move.md R47 to R54). -/

namespace Sys2Proof.Machine

/-- SETC: `V[rd] <- (DIN_HI, DIN_LO)` (R47). -/
def execSetc (rd : Reg) (s : State) : Host.Outcome State Fault Refusal :=
  unlessFaulted (fun s => finish rd s.din s) s

/-- SETU: `V[rd] <- (0, DIN_LO)` (R48). -/
def execSetu (rd : Reg) (s : State) : Host.Outcome State Fault Refusal :=
  unlessFaulted (fun s => finish rd (zext128 s.din.lo) s) s

/-- SETS: `V[rd] <- sext_128(DIN_LO)` (R49). -/
def execSets (rd : Reg) (s : State) : Host.Outcome State Fault Refusal :=
  unlessFaulted (fun s => finish rd (sext128 s.din.lo) s) s

/-- The constant LDK's `k` selects; none is selected above 4 (R50). -/
def constant (k : BitVec 12) : Option Value :=
  match k.toNat with
  | 0 => some zero
  | 1 => some one
  | 2 => some maxu
  | 3 => some maxs
  | 4 => some mins
  | _ => none

/-- LDK: loads a named constant, or raises IllegalCommand for `k > 4` (R50). -/
def execLdk (rd : Reg) (k : BitVec 12) (s : State) : Host.Outcome State Fault Refusal :=
  unlessFaulted (fun s =>
    match constant k with
    | some x => finish rd x s
    | none => raiseFault .illegalCommand s) s

/-- MOV: `V[rd] <- V[rs1]` (R51). -/
def execMov (rd rs1 : Reg) (s : State) : Host.Outcome State Fault Refusal :=
  unary (fun a => a) rd rs1 s

/-- GETC: responds `V[rs1]` (R52). -/
def execGetc (rs1 : Reg) (s : State) : Host.Outcome State Fault Refusal :=
  unlessFaulted (fun s => s.respond (some (s.readV rs1))) s

/-- GETLO: responds `(0, V[rs1].lo)` (R53). -/
def execGetlo (rs1 : Reg) (s : State) : Host.Outcome State Fault Refusal :=
  unlessFaulted (fun s => s.respond (some ⟨0, (s.readV rs1).lo⟩)) s

/-- RDST: responds `(zext_64(FCMD), zext_64(STATUS))`, in the fault state too (R54, R147). -/
def execRdst (s : State) : Host.Outcome State Fault Refusal :=
  .next (s.respond (some ⟨s.fcmd.setWidth 64, s.status.setWidth 64⟩))

end Sys2Proof.Machine
end

