-- ==== Sys2Proof/Machine/Convert.lean ====
section
/-! DEFINITION. The narrowing predicates (spec 46_convert.md R139, R140). -/

namespace Sys2Proof.Machine

/-- FITU64 (R139). -/
def execFitu64 (rd rs1 : Reg) (s : State) : Host.Outcome State Fault Refusal :=
  unary (fun a => truth (fitsUnsigned a)) rd rs1 s

/-- FITS64 (R140). -/
def execFits64 (rd rs1 : Reg) (s : State) : Host.Outcome State Fault Refusal :=
  unary (fun a => truth (fitsSigned a)) rd rs1 s

end Sys2Proof.Machine
end

