-- ==== Sys2Proof/Machine/Divide.lean ====
section
/-! DEFINITION. The division commands (spec 44_divide.md R111 to R123): thin wrappers on the engine. -/

namespace Sys2Proof.Machine

/-- UDIV (R111). -/
def execUdiv (rd rs1 rs2 : Reg) (s : State) : Host.Outcome State Fault Refusal :=
  unlessFaulted (fun s => finishDivision (udivmod (s.readV rs1) (s.readV rs2)) (fun d => finish rd d.q) s) s

/-- UMOD (R112). -/
def execUmod (rd rs1 rs2 : Reg) (s : State) : Host.Outcome State Fault Refusal :=
  unlessFaulted (fun s => finishDivision (udivmod (s.readV rs1) (s.readV rs2)) (fun d => finish rd d.r) s) s

/-- UDIVMOD (R113). -/
def execUdivmod (rd rd2 rs1 rs2 : Reg) (s : State) : Host.Outcome State Fault Refusal :=
  unlessFaulted (combinedDivision rd rd2 (fun s => udivmod (s.readV rs1) (s.readV rs2))) s

/-- UDIV64 (R114). -/
def execUdiv64 (rd rs1 rs2 : Reg) (s : State) : Host.Outcome State Fault Refusal :=
  unlessFaulted (fun s => finishDivision (udivmod (s.readV rs1) (s.readZext rs2)) (fun d => finish rd d.q) s) s

/-- UMOD64 (R115). -/
def execUmod64 (rd rs1 rs2 : Reg) (s : State) : Host.Outcome State Fault Refusal :=
  unlessFaulted (fun s => finishDivision (udivmod (s.readV rs1) (s.readZext rs2)) (fun d => finish rd d.r) s) s

/-- UDIVMOD64 (R116). -/
def execUdivmod64 (rd rd2 rs1 rs2 : Reg) (s : State) : Host.Outcome State Fault Refusal :=
  unlessFaulted (combinedDivision rd rd2 (fun s => udivmod (s.readV rs1) (s.readZext rs2))) s

/-- SDIV (R118). -/
def execSdiv (rd rs1 rs2 : Reg) (s : State) : Host.Outcome State Fault Refusal :=
  unlessFaulted (fun s => finishDivision (sdivmod (s.readV rs1) (s.readV rs2)) (fun d => finish rd d.q) s) s

/-- SMOD (R119). -/
def execSmod (rd rs1 rs2 : Reg) (s : State) : Host.Outcome State Fault Refusal :=
  unlessFaulted (fun s => finishDivision (sdivmod (s.readV rs1) (s.readV rs2)) (fun d => finish rd d.r) s) s

/-- SDIVMOD (R120). -/
def execSdivmod (rd rd2 rs1 rs2 : Reg) (s : State) : Host.Outcome State Fault Refusal :=
  unlessFaulted (combinedDivision rd rd2 (fun s => sdivmod (s.readV rs1) (s.readV rs2))) s

/-- SDIV64 (R121). -/
def execSdiv64 (rd rs1 rs2 : Reg) (s : State) : Host.Outcome State Fault Refusal :=
  unlessFaulted (fun s => finishDivision (sdivmod (s.readV rs1) (s.readSext rs2)) (fun d => finish rd d.q) s) s

/-- SMOD64 (R122). -/
def execSmod64 (rd rs1 rs2 : Reg) (s : State) : Host.Outcome State Fault Refusal :=
  unlessFaulted (fun s => finishDivision (sdivmod (s.readV rs1) (s.readSext rs2)) (fun d => finish rd d.r) s) s

/-- SDIVMOD64 (R123). -/
def execSdivmod64 (rd rd2 rs1 rs2 : Reg) (s : State) : Host.Outcome State Fault Refusal :=
  unlessFaulted (combinedDivision rd rd2 (fun s => sdivmod (s.readV rs1) (s.readSext rs2))) s

end Sys2Proof.Machine
end

