-- ==== Sys2Proof/Machine/Signed.lean ====
section
/-! DEFINITION. Sign converter, magnitude extract, signed comparison (spec 45_signed.md R125 to R138). -/

namespace Sys2Proof.Machine

/-- SIGN: MAXU, ZERO or ONE (R125). -/
def execSign (rd rs1 : Reg) (s : State) : Host.Outcome State Fault Refusal :=
  unary (fun a => u128 (sgn a)) rd rs1 s

/-- NEG (R126). -/
def execNeg (rd rs1 : Reg) (s : State) : Host.Outcome State Fault Refusal :=
  unary neg rd rs1 s

/-- ABS, its result meant to be read as signed (R127). -/
def execAbs (rd rs1 : Reg) (s : State) : Host.Outcome State Fault Refusal :=
  unary magnitude rd rs1 s

/-- ABSU: the bits of ABS, meant to be read as unsigned (R128). -/
def execAbsu (rd rs1 : Reg) (s : State) : Host.Outcome State Fault Refusal :=
  unary magnitude rd rs1 s

/-- A three-way signed compare or a predicate derived from it: the result is a function of `c` (R63, R129). -/
def signedCompare (result : Int → Value) (rd rs1 rs2 : Reg) (s : State) : Host.Outcome State Fault Refusal :=
  binary (fun a b => result (scmp a b)) rd rs1 rs2 s

/-- The same with the second operand `sext_128(V[rs2].lo)` (R134). -/
def signedCompare64 (result : Int → Value) (rd rs1 rs2 : Reg) (s : State) : Host.Outcome State Fault Refusal :=
  binarySext (fun a b => result (scmp a b)) rd rs1 rs2 s

/-- SCMP: MAXU, ZERO or ONE (R63, R129). -/
def execScmp (rd rs1 rs2 : Reg) (s : State) : Host.Outcome State Fault Refusal :=
  signedCompare u128 rd rs1 rs2 s

/-- SLT (R130). -/
def execSlt (rd rs1 rs2 : Reg) (s : State) : Host.Outcome State Fault Refusal :=
  signedCompare (fun c => truth (decide (c < 0))) rd rs1 rs2 s

/-- SLE (R131). -/
def execSle (rd rs1 rs2 : Reg) (s : State) : Host.Outcome State Fault Refusal :=
  signedCompare (fun c => truth (decide (c ≤ 0))) rd rs1 rs2 s

/-- SGT (R132). -/
def execSgt (rd rs1 rs2 : Reg) (s : State) : Host.Outcome State Fault Refusal :=
  signedCompare (fun c => truth (decide (c > 0))) rd rs1 rs2 s

/-- SGE (R133). -/
def execSge (rd rs1 rs2 : Reg) (s : State) : Host.Outcome State Fault Refusal :=
  signedCompare (fun c => truth (decide (c ≥ 0))) rd rs1 rs2 s

/-- SCMP64 (R134). -/
def execScmp64 (rd rs1 rs2 : Reg) (s : State) : Host.Outcome State Fault Refusal :=
  signedCompare64 u128 rd rs1 rs2 s

/-- SLT64 (R135). -/
def execSlt64 (rd rs1 rs2 : Reg) (s : State) : Host.Outcome State Fault Refusal :=
  signedCompare64 (fun c => truth (decide (c < 0))) rd rs1 rs2 s

/-- SLE64 (R136). -/
def execSle64 (rd rs1 rs2 : Reg) (s : State) : Host.Outcome State Fault Refusal :=
  signedCompare64 (fun c => truth (decide (c ≤ 0))) rd rs1 rs2 s

/-- SGT64 (R137). -/
def execSgt64 (rd rs1 rs2 : Reg) (s : State) : Host.Outcome State Fault Refusal :=
  signedCompare64 (fun c => truth (decide (c > 0))) rd rs1 rs2 s

/-- SGE64 (R138). -/
def execSge64 (rd rs1 rs2 : Reg) (s : State) : Host.Outcome State Fault Refusal :=
  signedCompare64 (fun c => truth (decide (c ≥ 0))) rd rs1 rs2 s

end Sys2Proof.Machine
end

