-- ==== Sys2Proof/Machine/UnsignedCompare.lean ====
section
/-! DEFINITION. Unsigned comparison (spec 42_compare.md R63 to R75). -/

namespace Sys2Proof.Machine

/-- A three-way unsigned compare or a predicate derived from it: the result is a function of `c` (R63, R64, R70). -/
def unsignedCompare (result : Int → Value) (rd rs1 rs2 : Reg) (s : State) : Host.Outcome State Fault Refusal :=
  binary (fun a b => result (ucmp a b)) rd rs1 rs2 s

/-- The same with the 64-bit operand `V[rs2].lo` (R71). -/
def unsignedCompare64 (result : Int → Value) (rd rs1 rs2 : Reg) (s : State) : Host.Outcome State Fault Refusal :=
  binary (fun a b => result (ucmp64 a b.lo)) rd rs1 rs2 s

/-- UCMP: MAXU, ZERO or ONE (R63, R64). -/
def execUcmp (rd rs1 rs2 : Reg) (s : State) : Host.Outcome State Fault Refusal :=
  unsignedCompare u128 rd rs1 rs2 s

/-- EQ (R65). -/
def execEq (rd rs1 rs2 : Reg) (s : State) : Host.Outcome State Fault Refusal :=
  binary (fun a b => truth (eqv a b)) rd rs1 rs2 s

/-- ULT (R66). -/
def execUlt (rd rs1 rs2 : Reg) (s : State) : Host.Outcome State Fault Refusal :=
  unsignedCompare (fun c => truth (decide (c < 0))) rd rs1 rs2 s

/-- ULE (R67). -/
def execUle (rd rs1 rs2 : Reg) (s : State) : Host.Outcome State Fault Refusal :=
  unsignedCompare (fun c => truth (decide (c ≤ 0))) rd rs1 rs2 s

/-- UGT (R68). -/
def execUgt (rd rs1 rs2 : Reg) (s : State) : Host.Outcome State Fault Refusal :=
  unsignedCompare (fun c => truth (decide (c > 0))) rd rs1 rs2 s

/-- UGE (R69). -/
def execUge (rd rs1 rs2 : Reg) (s : State) : Host.Outcome State Fault Refusal :=
  unsignedCompare (fun c => truth (decide (c ≥ 0))) rd rs1 rs2 s

/-- UCMP64 (R71). -/
def execUcmp64 (rd rs1 rs2 : Reg) (s : State) : Host.Outcome State Fault Refusal :=
  unsignedCompare64 u128 rd rs1 rs2 s

/-- ULT64 (R72). -/
def execUlt64 (rd rs1 rs2 : Reg) (s : State) : Host.Outcome State Fault Refusal :=
  unsignedCompare64 (fun c => truth (decide (c < 0))) rd rs1 rs2 s

/-- ULE64 (R73). -/
def execUle64 (rd rs1 rs2 : Reg) (s : State) : Host.Outcome State Fault Refusal :=
  unsignedCompare64 (fun c => truth (decide (c ≤ 0))) rd rs1 rs2 s

/-- UGT64 (R74). -/
def execUgt64 (rd rs1 rs2 : Reg) (s : State) : Host.Outcome State Fault Refusal :=
  unsignedCompare64 (fun c => truth (decide (c > 0))) rd rs1 rs2 s

/-- UGE64 (R75). -/
def execUge64 (rd rs1 rs2 : Reg) (s : State) : Host.Outcome State Fault Refusal :=
  unsignedCompare64 (fun c => truth (decide (c ≥ 0))) rd rs1 rs2 s

end Sys2Proof.Machine
end

