-- ==== Sys2Proof/Machine/Dispatch.lean ====
section
/-! DEFINITION. The meaning of every instruction: one arm per constructor, each one direct call. -/

namespace Sys2Proof.Machine

def exec (i : Instr) (s : State) : Host.Outcome State Fault Refusal :=
  match i with
  | .setc rd => Sys2Proof.Machine.execSetc rd s
  | .setu rd => Sys2Proof.Machine.execSetu rd s
  | .sets rd => Sys2Proof.Machine.execSets rd s
  | .ldk rd k => Sys2Proof.Machine.execLdk rd k s
  | .mov rd rs1 => Sys2Proof.Machine.execMov rd rs1 s
  | .getc rs1 => Sys2Proof.Machine.execGetc rs1 s
  | .getlo rs1 => Sys2Proof.Machine.execGetlo rs1 s
  | .rdst => Sys2Proof.Machine.execRdst s
  | .fitu64 rd rs1 => Sys2Proof.Machine.execFitu64 rd rs1 s
  | .fits64 rd rs1 => Sys2Proof.Machine.execFits64 rd rs1 s
  | .add rd rs1 rs2 => Sys2Proof.Machine.execAdd rd rs1 rs2 s
  | .sub rd rs1 rs2 => Sys2Proof.Machine.execSub rd rs1 rs2 s
  | .mul rd rs1 rs2 => Sys2Proof.Machine.execMul rd rs1 rs2 s
  | .mulw rd rs1 rs2 => Sys2Proof.Machine.execMulw rd rs1 rs2 s
  | .inc rd rs1 => Sys2Proof.Machine.execInc rd rs1 s
  | .dec rd rs1 => Sys2Proof.Machine.execDec rd rs1 s
  | .ucmp rd rs1 rs2 => Sys2Proof.Machine.execUcmp rd rs1 rs2 s
  | .eq rd rs1 rs2 => Sys2Proof.Machine.execEq rd rs1 rs2 s
  | .ult rd rs1 rs2 => Sys2Proof.Machine.execUlt rd rs1 rs2 s
  | .ule rd rs1 rs2 => Sys2Proof.Machine.execUle rd rs1 rs2 s
  | .ugt rd rs1 rs2 => Sys2Proof.Machine.execUgt rd rs1 rs2 s
  | .uge rd rs1 rs2 => Sys2Proof.Machine.execUge rd rs1 rs2 s
  | .scmp rd rs1 rs2 => Sys2Proof.Machine.execScmp rd rs1 rs2 s
  | .slt rd rs1 rs2 => Sys2Proof.Machine.execSlt rd rs1 rs2 s
  | .sle rd rs1 rs2 => Sys2Proof.Machine.execSle rd rs1 rs2 s
  | .sgt rd rs1 rs2 => Sys2Proof.Machine.execSgt rd rs1 rs2 s
  | .sge rd rs1 rs2 => Sys2Proof.Machine.execSge rd rs1 rs2 s
  | .not rd rs1 => Sys2Proof.Machine.execNot rd rs1 s
  | .and rd rs1 rs2 => Sys2Proof.Machine.execAnd rd rs1 rs2 s
  | .or rd rs1 rs2 => Sys2Proof.Machine.execOr rd rs1 rs2 s
  | .xor rd rs1 rs2 => Sys2Proof.Machine.execXor rd rs1 rs2 s
  | .shl rd rs1 rs2 => Sys2Proof.Machine.execShl rd rs1 rs2 s
  | .shr rd rs1 rs2 => Sys2Proof.Machine.execShr rd rs1 rs2 s
  | .shli rd rs1 imm => Sys2Proof.Machine.execShli rd rs1 imm s
  | .shri rd rs1 imm => Sys2Proof.Machine.execShri rd rs1 imm s
  | .lzcnt rd rs1 => Sys2Proof.Machine.execLzcnt rd rs1 s
  | .tzcnt rd rs1 => Sys2Proof.Machine.execTzcnt rd rs1 s
  | .popcnt rd rs1 => Sys2Proof.Machine.execPopcnt rd rs1 s
  | .bitlen rd rs1 => Sys2Proof.Machine.execBitlen rd rs1 s
  | .bit rd rs1 rs2 => Sys2Proof.Machine.execBit rd rs1 rs2 s
  | .biti rd rs1 imm => Sys2Proof.Machine.execBiti rd rs1 imm s
  | .bset rd rs1 rs2 => Sys2Proof.Machine.execBset rd rs1 rs2 s
  | .bclr rd rs1 rs2 => Sys2Proof.Machine.execBclr rd rs1 rs2 s
  | .bseti rd rs1 imm => Sys2Proof.Machine.execBseti rd rs1 imm s
  | .bclri rd rs1 imm => Sys2Proof.Machine.execBclri rd rs1 imm s
  | .udiv rd rs1 rs2 => Sys2Proof.Machine.execUdiv rd rs1 rs2 s
  | .umod rd rs1 rs2 => Sys2Proof.Machine.execUmod rd rs1 rs2 s
  | .udivmod rd rd2 rs1 rs2 => Sys2Proof.Machine.execUdivmod rd rd2 rs1 rs2 s
  | .sdiv rd rs1 rs2 => Sys2Proof.Machine.execSdiv rd rs1 rs2 s
  | .smod rd rs1 rs2 => Sys2Proof.Machine.execSmod rd rs1 rs2 s
  | .sdivmod rd rd2 rs1 rs2 => Sys2Proof.Machine.execSdivmod rd rd2 rs1 rs2 s
  | .sign rd rs1 => Sys2Proof.Machine.execSign rd rs1 s
  | .neg rd rs1 => Sys2Proof.Machine.execNeg rd rs1 s
  | .abs rd rs1 => Sys2Proof.Machine.execAbs rd rs1 s
  | .absu rd rs1 => Sys2Proof.Machine.execAbsu rd rs1 s
  | .ucmp64 rd rs1 rs2 => Sys2Proof.Machine.execUcmp64 rd rs1 rs2 s
  | .ult64 rd rs1 rs2 => Sys2Proof.Machine.execUlt64 rd rs1 rs2 s
  | .ule64 rd rs1 rs2 => Sys2Proof.Machine.execUle64 rd rs1 rs2 s
  | .ugt64 rd rs1 rs2 => Sys2Proof.Machine.execUgt64 rd rs1 rs2 s
  | .uge64 rd rs1 rs2 => Sys2Proof.Machine.execUge64 rd rs1 rs2 s
  | .scmp64 rd rs1 rs2 => Sys2Proof.Machine.execScmp64 rd rs1 rs2 s
  | .slt64 rd rs1 rs2 => Sys2Proof.Machine.execSlt64 rd rs1 rs2 s
  | .sle64 rd rs1 rs2 => Sys2Proof.Machine.execSle64 rd rs1 rs2 s
  | .sgt64 rd rs1 rs2 => Sys2Proof.Machine.execSgt64 rd rs1 rs2 s
  | .sge64 rd rs1 rs2 => Sys2Proof.Machine.execSge64 rd rs1 rs2 s
  | .udiv64 rd rs1 rs2 => Sys2Proof.Machine.execUdiv64 rd rs1 rs2 s
  | .umod64 rd rs1 rs2 => Sys2Proof.Machine.execUmod64 rd rs1 rs2 s
  | .udivmod64 rd rd2 rs1 rs2 => Sys2Proof.Machine.execUdivmod64 rd rd2 rs1 rs2 s
  | .sdiv64 rd rs1 rs2 => Sys2Proof.Machine.execSdiv64 rd rs1 rs2 s
  | .smod64 rd rs1 rs2 => Sys2Proof.Machine.execSmod64 rd rs1 rs2 s
  | .sdivmod64 rd rd2 rs1 rs2 => Sys2Proof.Machine.execSdivmod64 rd rd2 rs1 rs2 s

end Sys2Proof.Machine
end

