-- ==== Sys2Proof/WellFormed.lean ====
section
/-! DEFINITION. Which instructions are well formed: the checks of spec 30_encoding.md R44 (c) and (d), the only ones
the fields of an `Instr` can fail. An ill-formed instruction still has a word and a meaning: it raises the
IllegalCommand fault (R50, R113). -/

namespace Sys2Proof

/-- R44 (c): LDK's constant is 0..4. -/
def constantInRange (k : BitVec 12) : Bool := decide (k.toNat ≤ 4)

/-- R44 (d): the two destinations of a combined divide differ. -/
def destinationsDiffer (rd rd2 : Reg) : Bool := decide (rd ≠ rd2)

/-- Well-formedness of an instruction (R44 (c), (d)). -/
def Instr.wellFormed (i : Instr) : Bool :=
  match i with
  | .setc _ => true
  | .setu _ => true
  | .sets _ => true
  | .ldk _ k => constantInRange k
  | .mov _ _ => true
  | .getc _ => true
  | .getlo _ => true
  | .rdst => true
  | .fitu64 _ _ => true
  | .fits64 _ _ => true
  | .add _ _ _ => true
  | .sub _ _ _ => true
  | .mul _ _ _ => true
  | .mulw _ _ _ => true
  | .inc _ _ => true
  | .dec _ _ => true
  | .ucmp _ _ _ => true
  | .eq _ _ _ => true
  | .ult _ _ _ => true
  | .ule _ _ _ => true
  | .ugt _ _ _ => true
  | .uge _ _ _ => true
  | .scmp _ _ _ => true
  | .slt _ _ _ => true
  | .sle _ _ _ => true
  | .sgt _ _ _ => true
  | .sge _ _ _ => true
  | .not _ _ => true
  | .and _ _ _ => true
  | .or _ _ _ => true
  | .xor _ _ _ => true
  | .shl _ _ _ => true
  | .shr _ _ _ => true
  | .shli _ _ _ => true
  | .shri _ _ _ => true
  | .lzcnt _ _ => true
  | .tzcnt _ _ => true
  | .popcnt _ _ => true
  | .bitlen _ _ => true
  | .bit _ _ _ => true
  | .biti _ _ _ => true
  | .bset _ _ _ => true
  | .bclr _ _ _ => true
  | .bseti _ _ _ => true
  | .bclri _ _ _ => true
  | .udiv _ _ _ => true
  | .umod _ _ _ => true
  | .udivmod rd rd2 _ _ => destinationsDiffer rd rd2
  | .sdiv _ _ _ => true
  | .smod _ _ _ => true
  | .sdivmod rd rd2 _ _ => destinationsDiffer rd rd2
  | .sign _ _ => true
  | .neg _ _ => true
  | .abs _ _ => true
  | .absu _ _ => true
  | .ucmp64 _ _ _ => true
  | .ult64 _ _ _ => true
  | .ule64 _ _ _ => true
  | .ugt64 _ _ _ => true
  | .uge64 _ _ _ => true
  | .scmp64 _ _ _ => true
  | .slt64 _ _ _ => true
  | .sle64 _ _ _ => true
  | .sgt64 _ _ _ => true
  | .sge64 _ _ _ => true
  | .udiv64 _ _ _ => true
  | .umod64 _ _ _ => true
  | .udivmod64 rd rd2 _ _ => destinationsDiffer rd rd2
  | .sdiv64 _ _ _ => true
  | .smod64 _ _ _ => true
  | .sdivmod64 rd rd2 _ _ => destinationsDiffer rd rd2

end Sys2Proof
end

