-- ==== Sys2Proof/Decode.lean ====
section
/-! DEFINITION. Decoding of command words and the encoder (spec 30_encoding.md R37, R38, R42, R43). A word is the
command of a row when its opcode is the row's and every field the row's format does not use is zero; the checks of
R44 (c) and (d) are made where the rules make them, in the meanings of LDK and of the combined divides. -/

namespace Sys2Proof

/-- Why a word is the command of no row (R44 (a), (b)). -/
inductive DecodeError where
  /-- R44 (a): the opcode is reserved. -/
  | reservedOpcode
  /-- R44 (b): a field the format does not use is not zero. -/
  | unusedField
  deriving DecidableEq, Repr

/-- A register number as its 3-bit field. -/
def regBits (r : Reg) : BitVec 3 := BitVec.ofNat 3 r.val

/-- A 3-bit field as a register number. -/
def regOf (b : BitVec 3) : Reg := ⟨b.toNat, b.isLt⟩

/-- Bits 7:0, `op` (R37). -/
def opField (w : BitVec 32) : BitVec 8 := w.extractLsb' 0 8
/-- Bits 10:8, `rd` (R37). -/
def rdField (w : BitVec 32) : Reg := regOf (w.extractLsb' 8 3)
/-- Bits 13:11, `rs1` (R37). -/
def rs1Field (w : BitVec 32) : Reg := regOf (w.extractLsb' 11 3)
/-- Bits 16:14, `rs2` (R37). -/
def rs2Field (w : BitVec 32) : Reg := regOf (w.extractLsb' 14 3)
/-- Bits 19:17, `rd2` (R37). -/
def rd2Field (w : BitVec 32) : Reg := regOf (w.extractLsb' 17 3)
/-- Bits 31:20, `imm12` (R37). -/
def immField (w : BitVec 32) : BitVec 12 := w.extractLsb' 20 12

/-- The instruction when the unused fields are zero, else the error of R43. -/
def whenZero (unusedFieldsZero : Bool) (i : Instr) : Except DecodeError Instr :=
  if unusedFieldsZero then .ok i else .error .unusedField

/-- Format Z: no field (R38). -/
def formatZ (w : BitVec 32) (i : Instr) : Except DecodeError Instr :=
  whenZero (immField w = 0 && rd2Field w = 0 && rs2Field w = 0 && rs1Field w = 0 && rdField w = 0) i

/-- Format D: rd (R38). -/
def formatD (w : BitVec 32) (mk : Reg → Instr) : Except DecodeError Instr :=
  whenZero (immField w = 0 && rd2Field w = 0 && rs2Field w = 0 && rs1Field w = 0) (mk (rdField w))

/-- Format K: rd, imm12 (R38). -/
def formatK (w : BitVec 32) (mk : Reg → BitVec 12 → Instr) : Except DecodeError Instr :=
  whenZero (rd2Field w = 0 && rs2Field w = 0 && rs1Field w = 0) (mk (rdField w) (immField w))

/-- Format S: rs1 (R38). -/
def formatS (w : BitVec 32) (mk : Reg → Instr) : Except DecodeError Instr :=
  whenZero (immField w = 0 && rd2Field w = 0 && rs2Field w = 0 && rdField w = 0) (mk (rs1Field w))

/-- Format U: rd, rs1 (R38). -/
def formatU (w : BitVec 32) (mk : Reg → Reg → Instr) : Except DecodeError Instr :=
  whenZero (immField w = 0 && rd2Field w = 0 && rs2Field w = 0) (mk (rdField w) (rs1Field w))

/-- Format R: rd, rs1, rs2 (R38). -/
def formatR (w : BitVec 32) (mk : Reg → Reg → Reg → Instr) : Except DecodeError Instr :=
  whenZero (immField w = 0 && rd2Field w = 0) (mk (rdField w) (rs1Field w) (rs2Field w))

/-- Format I: rd, rs1, imm12 (R38). -/
def formatI (w : BitVec 32) (mk : Reg → Reg → BitVec 12 → Instr) : Except DecodeError Instr :=
  whenZero (rd2Field w = 0 && rs2Field w = 0) (mk (rdField w) (rs1Field w) (immField w))

/-- Format Q: rd, rd2, rs1, rs2 (R38). -/
def formatQ (w : BitVec 32) (mk : Reg → Reg → Reg → Reg → Instr) : Except DecodeError Instr :=
  whenZero (immField w = 0) (mk (rdField w) (rd2Field w) (rs1Field w) (rs2Field w))

/-- The opcodes 0x00 to 0x0F by their low digit (R42). -/
def decodeDigit0 (w : BitVec 32) (low : Nat) : Except DecodeError Instr :=
  match low with
  | 0x1 => formatD w .setc
  | 0x2 => formatD w .setu
  | 0x3 => formatD w .sets
  | 0x4 => formatK w .ldk
  | 0x5 => formatU w .mov
  | 0x6 => formatS w .getc
  | 0x7 => formatS w .getlo
  | 0x8 => formatZ w .rdst
  | 0x9 => formatU w .fitu64
  | 0xA => formatU w .fits64
  | _ => .error .reservedOpcode

/-- The opcodes 0x10 to 0x1F by their low digit (R42). -/
def decodeDigit1 (w : BitVec 32) (low : Nat) : Except DecodeError Instr :=
  match low with
  | 0x0 => formatR w .add
  | 0x1 => formatR w .sub
  | 0x2 => formatR w .mul
  | 0x3 => formatR w .mulw
  | 0x4 => formatU w .inc
  | 0x5 => formatU w .dec
  | _ => .error .reservedOpcode

/-- The opcodes 0x20 to 0x2F by their low digit (R42). -/
def decodeDigit2 (w : BitVec 32) (low : Nat) : Except DecodeError Instr :=
  match low with
  | 0x0 => formatR w .ucmp
  | 0x1 => formatR w .eq
  | 0x2 => formatR w .ult
  | 0x3 => formatR w .ule
  | 0x4 => formatR w .ugt
  | 0x5 => formatR w .uge
  | _ => .error .reservedOpcode

/-- The opcodes 0x30 to 0x3F by their low digit (R42). -/
def decodeDigit3 (w : BitVec 32) (low : Nat) : Except DecodeError Instr :=
  match low with
  | 0x0 => formatR w .scmp
  | 0x2 => formatR w .slt
  | 0x3 => formatR w .sle
  | 0x4 => formatR w .sgt
  | 0x5 => formatR w .sge
  | _ => .error .reservedOpcode

/-- The opcodes 0x40 to 0x4F by their low digit (R42). -/
def decodeDigit4 (w : BitVec 32) (low : Nat) : Except DecodeError Instr :=
  match low with
  | 0x0 => formatU w .not
  | 0x1 => formatR w .and
  | 0x2 => formatR w .or
  | 0x3 => formatR w .xor
  | 0x8 => formatR w .shl
  | 0x9 => formatR w .shr
  | 0xA => formatI w .shli
  | 0xB => formatI w .shri
  | _ => .error .reservedOpcode

/-- The opcodes 0x50 to 0x5F by their low digit (R42). -/
def decodeDigit5 (w : BitVec 32) (low : Nat) : Except DecodeError Instr :=
  match low with
  | 0x0 => formatU w .lzcnt
  | 0x1 => formatU w .tzcnt
  | 0x2 => formatU w .popcnt
  | 0x3 => formatU w .bitlen
  | 0x4 => formatR w .bit
  | 0x5 => formatI w .biti
  | 0x6 => formatR w .bset
  | 0x7 => formatR w .bclr
  | 0x8 => formatI w .bseti
  | 0x9 => formatI w .bclri
  | _ => .error .reservedOpcode

/-- The opcodes 0x60 to 0x6F by their low digit (R42). -/
def decodeDigit6 (w : BitVec 32) (low : Nat) : Except DecodeError Instr :=
  match low with
  | 0x0 => formatR w .udiv
  | 0x1 => formatR w .umod
  | 0x2 => formatQ w .udivmod
  | 0x4 => formatR w .sdiv
  | 0x5 => formatR w .smod
  | 0x6 => formatQ w .sdivmod
  | _ => .error .reservedOpcode

/-- The opcodes 0x70 to 0x7F by their low digit (R42). -/
def decodeDigit7 (w : BitVec 32) (low : Nat) : Except DecodeError Instr :=
  match low with
  | 0x0 => formatU w .sign
  | 0x1 => formatU w .neg
  | 0x2 => formatU w .abs
  | 0x3 => formatU w .absu
  | _ => .error .reservedOpcode

/-- The opcodes 0xA0 to 0xAF by their low digit (R42). -/
def decodeDigitA (w : BitVec 32) (low : Nat) : Except DecodeError Instr :=
  match low with
  | 0x0 => formatR w .ucmp64
  | 0x2 => formatR w .ult64
  | 0x3 => formatR w .ule64
  | 0x4 => formatR w .ugt64
  | 0x5 => formatR w .uge64
  | _ => .error .reservedOpcode

/-- The opcodes 0xB0 to 0xBF by their low digit (R42). -/
def decodeDigitB (w : BitVec 32) (low : Nat) : Except DecodeError Instr :=
  match low with
  | 0x0 => formatR w .scmp64
  | 0x2 => formatR w .slt64
  | 0x3 => formatR w .sle64
  | 0x4 => formatR w .sgt64
  | 0x5 => formatR w .sge64
  | _ => .error .reservedOpcode

/-- The opcodes 0xE0 to 0xEF by their low digit (R42). -/
def decodeDigitE (w : BitVec 32) (low : Nat) : Except DecodeError Instr :=
  match low with
  | 0x0 => formatR w .udiv64
  | 0x1 => formatR w .umod64
  | 0x2 => formatQ w .udivmod64
  | 0x4 => formatR w .sdiv64
  | 0x5 => formatR w .smod64
  | 0x6 => formatQ w .sdivmod64
  | _ => .error .reservedOpcode

/-- The instruction of a command word, by the opcode map of R42: the high digit of the opcode, then the low one. Every
opcode not in the map is reserved. -/
def decode (w : BitVec 32) : Except DecodeError Instr :=
  match (opField w).toNat / 16 with
  | 0x0 => decodeDigit0 w ((opField w).toNat % 16)
  | 0x1 => decodeDigit1 w ((opField w).toNat % 16)
  | 0x2 => decodeDigit2 w ((opField w).toNat % 16)
  | 0x3 => decodeDigit3 w ((opField w).toNat % 16)
  | 0x4 => decodeDigit4 w ((opField w).toNat % 16)
  | 0x5 => decodeDigit5 w ((opField w).toNat % 16)
  | 0x6 => decodeDigit6 w ((opField w).toNat % 16)
  | 0x7 => decodeDigit7 w ((opField w).toNat % 16)
  | 0xA => decodeDigitA w ((opField w).toNat % 16)
  | 0xB => decodeDigitB w ((opField w).toNat % 16)
  | 0xE => decodeDigitE w ((opField w).toNat % 16)
  | _ => .error .reservedOpcode

/-- The word of the six fields, `(imm12 << 20) | (rd2 << 17) | (rs2 << 14) | (rs1 << 11) | (rd << 8) | op` (R45). -/
def pack (imm : BitVec 12) (rd2 rs2 rs1 rd : Reg) (op : BitVec 8) : BitVec 32 :=
  imm ++ regBits rd2 ++ regBits rs2 ++ regBits rs1 ++ regBits rd ++ op

/-- The command word of an instruction: the fields its format uses, the others zero (R38, R42, R45). -/
def encode (i : Instr) : BitVec 32 :=
  match i with
  | .setc rd => pack 0 0 0 0 rd 0x01
  | .setu rd => pack 0 0 0 0 rd 0x02
  | .sets rd => pack 0 0 0 0 rd 0x03
  | .ldk rd k => pack k 0 0 0 rd 0x04
  | .mov rd rs1 => pack 0 0 0 rs1 rd 0x05
  | .getc rs1 => pack 0 0 0 rs1 0 0x06
  | .getlo rs1 => pack 0 0 0 rs1 0 0x07
  | .rdst => pack 0 0 0 0 0 0x08
  | .fitu64 rd rs1 => pack 0 0 0 rs1 rd 0x09
  | .fits64 rd rs1 => pack 0 0 0 rs1 rd 0x0A
  | .add rd rs1 rs2 => pack 0 0 rs2 rs1 rd 0x10
  | .sub rd rs1 rs2 => pack 0 0 rs2 rs1 rd 0x11
  | .mul rd rs1 rs2 => pack 0 0 rs2 rs1 rd 0x12
  | .mulw rd rs1 rs2 => pack 0 0 rs2 rs1 rd 0x13
  | .inc rd rs1 => pack 0 0 0 rs1 rd 0x14
  | .dec rd rs1 => pack 0 0 0 rs1 rd 0x15
  | .ucmp rd rs1 rs2 => pack 0 0 rs2 rs1 rd 0x20
  | .eq rd rs1 rs2 => pack 0 0 rs2 rs1 rd 0x21
  | .ult rd rs1 rs2 => pack 0 0 rs2 rs1 rd 0x22
  | .ule rd rs1 rs2 => pack 0 0 rs2 rs1 rd 0x23
  | .ugt rd rs1 rs2 => pack 0 0 rs2 rs1 rd 0x24
  | .uge rd rs1 rs2 => pack 0 0 rs2 rs1 rd 0x25
  | .scmp rd rs1 rs2 => pack 0 0 rs2 rs1 rd 0x30
  | .slt rd rs1 rs2 => pack 0 0 rs2 rs1 rd 0x32
  | .sle rd rs1 rs2 => pack 0 0 rs2 rs1 rd 0x33
  | .sgt rd rs1 rs2 => pack 0 0 rs2 rs1 rd 0x34
  | .sge rd rs1 rs2 => pack 0 0 rs2 rs1 rd 0x35
  | .not rd rs1 => pack 0 0 0 rs1 rd 0x40
  | .and rd rs1 rs2 => pack 0 0 rs2 rs1 rd 0x41
  | .or rd rs1 rs2 => pack 0 0 rs2 rs1 rd 0x42
  | .xor rd rs1 rs2 => pack 0 0 rs2 rs1 rd 0x43
  | .shl rd rs1 rs2 => pack 0 0 rs2 rs1 rd 0x48
  | .shr rd rs1 rs2 => pack 0 0 rs2 rs1 rd 0x49
  | .shli rd rs1 imm => pack imm 0 0 rs1 rd 0x4A
  | .shri rd rs1 imm => pack imm 0 0 rs1 rd 0x4B
  | .lzcnt rd rs1 => pack 0 0 0 rs1 rd 0x50
  | .tzcnt rd rs1 => pack 0 0 0 rs1 rd 0x51
  | .popcnt rd rs1 => pack 0 0 0 rs1 rd 0x52
  | .bitlen rd rs1 => pack 0 0 0 rs1 rd 0x53
  | .bit rd rs1 rs2 => pack 0 0 rs2 rs1 rd 0x54
  | .biti rd rs1 imm => pack imm 0 0 rs1 rd 0x55
  | .bset rd rs1 rs2 => pack 0 0 rs2 rs1 rd 0x56
  | .bclr rd rs1 rs2 => pack 0 0 rs2 rs1 rd 0x57
  | .bseti rd rs1 imm => pack imm 0 0 rs1 rd 0x58
  | .bclri rd rs1 imm => pack imm 0 0 rs1 rd 0x59
  | .udiv rd rs1 rs2 => pack 0 0 rs2 rs1 rd 0x60
  | .umod rd rs1 rs2 => pack 0 0 rs2 rs1 rd 0x61
  | .udivmod rd rd2 rs1 rs2 => pack 0 rd2 rs2 rs1 rd 0x62
  | .sdiv rd rs1 rs2 => pack 0 0 rs2 rs1 rd 0x64
  | .smod rd rs1 rs2 => pack 0 0 rs2 rs1 rd 0x65
  | .sdivmod rd rd2 rs1 rs2 => pack 0 rd2 rs2 rs1 rd 0x66
  | .sign rd rs1 => pack 0 0 0 rs1 rd 0x70
  | .neg rd rs1 => pack 0 0 0 rs1 rd 0x71
  | .abs rd rs1 => pack 0 0 0 rs1 rd 0x72
  | .absu rd rs1 => pack 0 0 0 rs1 rd 0x73
  | .ucmp64 rd rs1 rs2 => pack 0 0 rs2 rs1 rd 0xA0
  | .ult64 rd rs1 rs2 => pack 0 0 rs2 rs1 rd 0xA2
  | .ule64 rd rs1 rs2 => pack 0 0 rs2 rs1 rd 0xA3
  | .ugt64 rd rs1 rs2 => pack 0 0 rs2 rs1 rd 0xA4
  | .uge64 rd rs1 rs2 => pack 0 0 rs2 rs1 rd 0xA5
  | .scmp64 rd rs1 rs2 => pack 0 0 rs2 rs1 rd 0xB0
  | .slt64 rd rs1 rs2 => pack 0 0 rs2 rs1 rd 0xB2
  | .sle64 rd rs1 rs2 => pack 0 0 rs2 rs1 rd 0xB3
  | .sgt64 rd rs1 rs2 => pack 0 0 rs2 rs1 rd 0xB4
  | .sge64 rd rs1 rs2 => pack 0 0 rs2 rs1 rd 0xB5
  | .udiv64 rd rs1 rs2 => pack 0 0 rs2 rs1 rd 0xE0
  | .umod64 rd rs1 rs2 => pack 0 0 rs2 rs1 rd 0xE1
  | .udivmod64 rd rd2 rs1 rs2 => pack 0 rd2 rs2 rs1 rd 0xE2
  | .sdiv64 rd rs1 rs2 => pack 0 0 rs2 rs1 rd 0xE4
  | .smod64 rd rs1 rs2 => pack 0 0 rs2 rs1 rd 0xE5
  | .sdivmod64 rd rd2 rs1 rs2 => pack 0 rd2 rs2 rs1 rd 0xE6

/-- The instruction the decoder reads from a table row's word: CORE's word is one 32-bit unit on the CMD port, so no
byte order enters (R32, R37). Bits at and above `nbits` are zero. -/
def decodeTableWord (nbits w : Nat) : Option Instr :=
  (decode (BitVec.ofNat 32 (w % 2 ^ nbits))).toOption

/-- The mask column of R38: the bits of a word that must match. -/
def Format.mask (f : Format) : BitVec 32 :=
  match f with
  | .Z => 0xFFFFFFFF
  | .D => 0xFFFFF8FF
  | .K => 0x000FF8FF
  | .S => 0xFFFFC7FF
  | .U => 0xFFFFC0FF
  | .R => 0xFFFE00FF
  | .I => 0x000FC0FF
  | .Q => 0xFFF000FF

/-- The assigned opcodes 0x00 to 0x3F with their formats (R42). -/
def opcodesLow : List (BitVec 8 × Format) :=
  [(0x01, .D), (0x02, .D), (0x03, .D), (0x04, .K), (0x05, .U), (0x06, .S), (0x07, .S), (0x08, .Z), (0x09, .U),
   (0x0A, .U), (0x10, .R), (0x11, .R), (0x12, .R), (0x13, .R), (0x14, .U), (0x15, .U), (0x20, .R), (0x21, .R),
   (0x22, .R), (0x23, .R), (0x24, .R), (0x25, .R), (0x30, .R), (0x32, .R), (0x33, .R), (0x34, .R), (0x35, .R)]

/-- The assigned opcodes 0x40 to 0x7F with their formats (R42). -/
def opcodesHigh : List (BitVec 8 × Format) :=
  [(0x40, .U), (0x41, .R), (0x42, .R), (0x43, .R), (0x48, .R), (0x49, .R), (0x4A, .I), (0x4B, .I), (0x50, .U),
   (0x51, .U), (0x52, .U), (0x53, .U), (0x54, .R), (0x55, .I), (0x56, .R), (0x57, .R), (0x58, .I), (0x59, .I),
   (0x60, .R), (0x61, .R), (0x62, .Q), (0x64, .R), (0x65, .R), (0x66, .Q), (0x70, .U), (0x71, .U), (0x72, .U),
   (0x73, .U)]

/-- The 64-bit entry forms, 0x80 to 0xFF, with their formats (R42). -/
def opcodes64 : List (BitVec 8 × Format) :=
  [(0xA0, .R), (0xA2, .R), (0xA3, .R), (0xA4, .R), (0xA5, .R), (0xB0, .R), (0xB2, .R), (0xB3, .R), (0xB4, .R),
   (0xB5, .R), (0xE0, .R), (0xE1, .R), (0xE2, .Q), (0xE4, .R), (0xE5, .R), (0xE6, .Q)]

/-- The opcode map of R42 as data: each assigned opcode with its format. -/
def opcodeMap : List (BitVec 8 × Format) := opcodesLow ++ opcodesHigh ++ opcodes64

end Sys2Proof
end

