-- ==== Sys2Proof/Machine/Fetch.lean ====
section
/-! DEFINITION. What a step takes from the host: a command transaction or a change of the RESET pin (spec 10_state.md
R22, R29, 70_reset_and_hazards.md R153). -/

namespace Sys2Proof.Machine

/-- What the next host action asks of a step. -/
inductive Work where
  /-- The step is done: its outcome is known without running an instruction. -/
  | settled (o : Host.Outcome State Fault Refusal)
  /-- Run the instruction `i` in the state `s`. -/
  | run (i : Instr) (s : State)

/-- The state in which a transaction has sampled the ports: its word and DIN pair (R29). -/
def State.sample (s : State) (w : BitVec 32) (d : Value) : State := { s with cmd := w, din := d }

/-- One command transaction. While RESET is asserted no command is accepted (R153, notes/assumptions/3.md); else the
word is decoded, and a word that is the command of no row is an illegal command (R44). -/
def transaction (w : BitVec 32) (d : Value) (s : State) : Work :=
  if s.resetPin then .settled (.next (s.respond none))
  else
    match decode w with
    | .ok i => .run i (s.sample w d)
    | .error _ => .settled (illegalCommand (s.sample w d))

/-- RESET is asserted: CORE takes its reset state (R153). -/
def assertResetPin (s : State) : State := { resetCore s with resetPin := true }

/-- RESET is released: CORE is in the reset state and accepts commands (R153). Releasing a pin that is not asserted
changes nothing. -/
def releaseResetPin (s : State) : State :=
  if s.resetPin then { resetCore s with resetPin := false } else s.respond none

/-- Takes the oldest host action; with none pending CORE is idle (R152). -/
def nextWork (s : State) : Work :=
  match s.input with
  | [] => .settled (.next (s.respond none))
  | .command w d :: rest => transaction w d { s with input := rest }
  | .assertReset :: rest => .settled (.next (assertResetPin { s with input := rest }))
  | .releaseReset :: rest => .settled (.next (releaseResetPin { s with input := rest }))

/-- The host's next action is the command word `w` with the DIN pair as it stands, RESET released. -/
def placeCommand (w : BitVec 32) (s : State) : State :=
  { s with input := .command w s.din :: s.input, resetPin := false }

end Sys2Proof.Machine
end

