-- ==== Sys2Proof/Machine/Step.lean ====
section
/-! DEFINITION. One step: the host's next action, and the instruction it issues (spec 20_memory.md R34). -/

namespace Sys2Proof.Machine

/-- One step of CORE: one atomic command transaction, one change of RESET, or nothing when the host asks nothing. -/
def step (s : State) : Host.Outcome State Fault Refusal :=
  match nextWork s with
  | .settled o => o
  | .run i s' => exec i s'

/-- `s` with the instruction whose bits are `w` placed as the host's next command (notes/assumptions/4.md). -/
def State.withFetchWord (s : State) (nbits w : Nat) : State :=
  placeCommand (BitVec.ofNat 32 (w % 2 ^ nbits)) s

end Sys2Proof.Machine
end

