-- ==== Sys2Proof/Machine/Assembler.lean ====
section
/-! DEFINITION. The assembler of spec 30_encoding.md section 6, from a line already split into its parts to the transaction
the host makes of it: the lines that carry DIN values or constant names (R45) and the pseudo-instructions (R46). The
spelling of a line (case, comments, decimal or hexadecimal) is not modelled (notes/assumptions/7.md). -/

namespace Sys2Proof.Machine

/-- The pseudo-instructions (R46). -/
inductive Pseudo where
  | sadd (rd rs1 rs2 : Reg)
  | ssub (rd rs1 rs2 : Reg)
  | smul (rd rs1 rs2 : Reg)
  | sinc (rd rs1 : Reg)
  | sdec (rd rs1 : Reg)
  | setbit (rd rs1 : Reg) (i : BitVec 12) (b : Bool)
  | setbitr (rd rs1 rs2 : Reg) (b : Bool)
  | zero (rd : Reg)
  | one (rd : Reg)
  deriving DecidableEq, Repr

/-- The one command a pseudo-instruction expands to (R46, R97). -/
def expand (p : Pseudo) : Instr :=
  match p with
  | .sadd rd rs1 rs2 => .add rd rs1 rs2
  | .ssub rd rs1 rs2 => .sub rd rs1 rs2
  | .smul rd rs1 rs2 => .mul rd rs1 rs2
  | .sinc rd rs1 => .inc rd rs1
  | .sdec rd rs1 => .dec rd rs1
  | .setbit rd rs1 i b => if b then .bseti rd rs1 i else .bclri rd rs1 i
  | .setbitr rd rs1 rs2 b => if b then .bset rd rs1 rs2 else .bclr rd rs1 rs2
  | .zero rd => .ldk rd 0
  | .one rd => .ldk rd 1

/-- The constant names LDK accepts (R45). -/
inductive ConstantName where
  | ZERO | ONE | MAXU | MAXS | MINS
  deriving DecidableEq, Repr

/-- The immediate a constant name stands for (R45). -/
def constantCode (c : ConstantName) : BitVec 12 :=
  match c with
  | .ZERO => 0
  | .ONE => 1
  | .MAXU => 2
  | .MAXS => 3
  | .MINS => 4

/-- One line of assembly (R45). -/
inductive AsmLine where
  /-- `SETC rd, HI, LO`. -/
  | setc (rd : Reg) (hi lo : Word)
  /-- `SETU rd, LO`. -/
  | setu (rd : Reg) (lo : Word)
  /-- `SETS rd, LO`. -/
  | sets (rd : Reg) (lo : Word)
  /-- `LDK rd, name`. -/
  | ldkNamed (rd : Reg) (c : ConstantName)
  /-- Any command, its operands in the order of its format. -/
  | command (i : Instr)
  /-- A pseudo-instruction. -/
  | pseudo (p : Pseudo)
  deriving DecidableEq, Repr

/-- The command of a line. -/
def AsmLine.instr (l : AsmLine) : Instr :=
  match l with
  | .setc rd _ _ => .setc rd
  | .setu rd _ => .setu rd
  | .sets rd _ => .sets rd
  | .ldkNamed rd c => .ldk rd (constantCode c)
  | .command i => i
  | .pseudo p => expand p

/-- The DIN pair presented with a line: what the line gives, and `pins`, whatever stands there, elsewhere (R45). -/
def AsmLine.din (pins : Value) (l : AsmLine) : Value :=
  match l with
  | .setc _ hi lo => ⟨hi, lo⟩
  | .setu _ lo => ⟨pins.hi, lo⟩
  | .sets _ lo => ⟨pins.hi, lo⟩
  | .ldkNamed _ _ => pins
  | .command _ => pins
  | .pseudo _ => pins

/-- The transaction the host makes of a line (R45). -/
def assemble (pins : Value) (l : AsmLine) : HostEvent := .command (encode l.instr) (l.din pins)

end Sys2Proof.Machine
end

