-- ==== Sys2Proof/Safety.lean ====
section
/-! DEFINITION. The terms claims about CORE use: illegal words, what a command may write and answer, what fault entry and
a completed division do to the state, and the invariant of the machine. -/

namespace Sys2Proof.Machine

/-- `w` is the command of the row: `(w AND mask) == match` (R38). -/
def rowMatches (w : BitVec 32) (row : BitVec 8 × Format) : Bool := w &&& row.2.mask == row.1.setWidth 32

/-- The word is an illegal command (R44): the command of no row, (a) or (b); LDK with a constant above 4, (c); a combined
divide with equal destinations, (d). -/
def illegalWord (w : BitVec 32) : Bool :=
  !(opcodeMap.any (rowMatches w))
    || (opField w == 0x04 && decide (4 < (immField w).toNat))
    || ((opField w == 0x62 || opField w == 0x66 || opField w == 0xE2 || opField w == 0xE6)
        && rdField w == rd2Field w)

/-- The registers a command names as destinations (R19). -/
def destinations (i : Instr) : List Reg :=
  match i with
  | .setc rd => [rd]
  | .setu rd => [rd]
  | .sets rd => [rd]
  | .ldk rd _ => [rd]
  | .mov rd _ => [rd]
  | .getc _ => []
  | .getlo _ => []
  | .rdst => []
  | .fitu64 rd _ => [rd]
  | .fits64 rd _ => [rd]
  | .add rd _ _ => [rd]
  | .sub rd _ _ => [rd]
  | .mul rd _ _ => [rd]
  | .mulw rd _ _ => [rd]
  | .inc rd _ => [rd]
  | .dec rd _ => [rd]
  | .ucmp rd _ _ => [rd]
  | .eq rd _ _ => [rd]
  | .ult rd _ _ => [rd]
  | .ule rd _ _ => [rd]
  | .ugt rd _ _ => [rd]
  | .uge rd _ _ => [rd]
  | .scmp rd _ _ => [rd]
  | .slt rd _ _ => [rd]
  | .sle rd _ _ => [rd]
  | .sgt rd _ _ => [rd]
  | .sge rd _ _ => [rd]
  | .not rd _ => [rd]
  | .and rd _ _ => [rd]
  | .or rd _ _ => [rd]
  | .xor rd _ _ => [rd]
  | .shl rd _ _ => [rd]
  | .shr rd _ _ => [rd]
  | .shli rd _ _ => [rd]
  | .shri rd _ _ => [rd]
  | .lzcnt rd _ => [rd]
  | .tzcnt rd _ => [rd]
  | .popcnt rd _ => [rd]
  | .bitlen rd _ => [rd]
  | .bit rd _ _ => [rd]
  | .biti rd _ _ => [rd]
  | .bset rd _ _ => [rd]
  | .bclr rd _ _ => [rd]
  | .bseti rd _ _ => [rd]
  | .bclri rd _ _ => [rd]
  | .udiv rd _ _ => [rd]
  | .umod rd _ _ => [rd]
  | .udivmod rd rd2 _ _ => [rd, rd2]
  | .sdiv rd _ _ => [rd]
  | .smod rd _ _ => [rd]
  | .sdivmod rd rd2 _ _ => [rd, rd2]
  | .sign rd _ => [rd]
  | .neg rd _ => [rd]
  | .abs rd _ => [rd]
  | .absu rd _ => [rd]
  | .ucmp64 rd _ _ => [rd]
  | .ult64 rd _ _ => [rd]
  | .ule64 rd _ _ => [rd]
  | .ugt64 rd _ _ => [rd]
  | .uge64 rd _ _ => [rd]
  | .scmp64 rd _ _ => [rd]
  | .slt64 rd _ _ => [rd]
  | .sle64 rd _ _ => [rd]
  | .sgt64 rd _ _ => [rd]
  | .sge64 rd _ _ => [rd]
  | .udiv64 rd _ _ => [rd]
  | .umod64 rd _ _ => [rd]
  | .udivmod64 rd rd2 _ _ => [rd, rd2]
  | .sdiv64 rd _ _ => [rd]
  | .smod64 rd _ _ => [rd]
  | .sdivmod64 rd rd2 _ _ => [rd, rd2]

/-- The twelve division commands (R99). -/
def isDivision (i : Instr) : Bool :=
  match i with
  | .setc _ => false
  | .setu _ => false
  | .sets _ => false
  | .ldk _ _ => false
  | .mov _ _ => false
  | .getc _ => false
  | .getlo _ => false
  | .rdst => false
  | .fitu64 _ _ => false
  | .fits64 _ _ => false
  | .add _ _ _ => false
  | .sub _ _ _ => false
  | .mul _ _ _ => false
  | .mulw _ _ _ => false
  | .inc _ _ => false
  | .dec _ _ => false
  | .ucmp _ _ _ => false
  | .eq _ _ _ => false
  | .ult _ _ _ => false
  | .ule _ _ _ => false
  | .ugt _ _ _ => false
  | .uge _ _ _ => false
  | .scmp _ _ _ => false
  | .slt _ _ _ => false
  | .sle _ _ _ => false
  | .sgt _ _ _ => false
  | .sge _ _ _ => false
  | .not _ _ => false
  | .and _ _ _ => false
  | .or _ _ _ => false
  | .xor _ _ _ => false
  | .shl _ _ _ => false
  | .shr _ _ _ => false
  | .shli _ _ _ => false
  | .shri _ _ _ => false
  | .lzcnt _ _ => false
  | .tzcnt _ _ => false
  | .popcnt _ _ => false
  | .bitlen _ _ => false
  | .bit _ _ _ => false
  | .biti _ _ _ => false
  | .bset _ _ _ => false
  | .bclr _ _ _ => false
  | .bseti _ _ _ => false
  | .bclri _ _ _ => false
  | .udiv _ _ _ => true
  | .umod _ _ _ => true
  | .udivmod _ _ _ _ => true
  | .sdiv _ _ _ => true
  | .smod _ _ _ => true
  | .sdivmod _ _ _ _ => true
  | .sign _ _ => false
  | .neg _ _ => false
  | .abs _ _ => false
  | .absu _ _ => false
  | .ucmp64 _ _ _ => false
  | .ult64 _ _ _ => false
  | .ule64 _ _ _ => false
  | .ugt64 _ _ _ => false
  | .uge64 _ _ _ => false
  | .scmp64 _ _ _ => false
  | .slt64 _ _ _ => false
  | .sle64 _ _ _ => false
  | .sgt64 _ _ _ => false
  | .sge64 _ _ _ => false
  | .udiv64 _ _ _ => true
  | .umod64 _ _ _ => true
  | .udivmod64 _ _ _ _ => true
  | .sdiv64 _ _ _ => true
  | .smod64 _ _ _ => true
  | .sdivmod64 _ _ _ _ => true

/-- The three commands that respond (R29). -/
def responds (i : Instr) : Prop := (∃ rs1, i = .getc rs1) ∨ (∃ rs1, i = .getlo rs1) ∨ i = .rdst

/-- The three commands that use DIN (R29). -/
def usesDin (i : Instr) : Prop := ∃ rd, i = .setc rd ∨ i = .setu rd ∨ i = .sets rd

/-- `s` after a command that writes `x` to `V[rd]` and nothing else, with an empty response: every other field is that of
`s`, and every other register too. -/
def State.after (s : State) (rd : Reg) (x : Value) : State := { s with v := s.v.set rd.val x, dout := none }

/-- `s` after a command whose only effect is the response `d`. -/
def State.answering (s : State) (d : Value) : State := { s with dout := some d }

/-- `t` is `s` after fault entry with cause code `c` (R146): FAULT is 1, CAUSE is `c`, FCMD is the command word, the
response is empty, and nothing else has changed, DPATH and the reserved bits of STATUS included. -/
structure FaultEntered (s t : State) (c : BitVec 3) : Prop where
  fault : t.status.getLsbD 0 = true
  cause : t.status.extractLsb' 1 3 = c
  otherBits : ∀ k, 4 ≤ k → t.status.getLsbD k = s.status.getLsbD k
  fcmd : t.fcmd = s.cmd
  dout : t.dout = none
  v : t.v = s.v
  resetPin : t.resetPin = s.resetPin
  cmd : t.cmd = s.cmd
  din : t.din = s.din
  input : t.input = s.input

/-- The instruction answers the next state that fault entry with cause code `c` gives. -/
def EntersFault (i : Instr) (s : State) (c : BitVec 3) : Prop := ∃ t, exec i s = .next t ∧ FaultEntered s t c

/-- `t` is `s` after a division that completed with the registers `regs` by a path of code `p`: DPATH is `p`, the response is
empty, and nothing else has changed, the other bits of STATUS and FCMD included. -/
structure Divided (s t : State) (regs : Vector Value 8) (p : BitVec 4) : Prop where
  v : t.v = regs
  dpath : t.status.extractLsb' 4 4 = p
  otherBits : ∀ k, k < 4 ∨ 8 ≤ k → t.status.getLsbD k = s.status.getLsbD k
  fcmd : t.fcmd = s.fcmd
  dout : t.dout = none
  resetPin : t.resetPin = s.resetPin
  cmd : t.cmd = s.cmd
  din : t.din = s.din
  input : t.input = s.input

/-- The instruction answers the next state of a completed division. -/
def CompletesDivision (i : Instr) (s : State) (regs : Vector Value 8) (p : BitVec 4) : Prop :=
  ∃ t, exec i s = .next t ∧ Divided s t regs p

/-- The branch of the selection policy by numbers, for a non-zero divisor `b` (R25, R100, R106): the first that applies of
divisor one, both below `2^64`, divisor a power of two, `a < b`, `a = b`; else by the gap of the bit lengths. -/
def pathByNumbers (a b : Nat) : BitVec 4 :=
  if b = 1 then 1
  else if a < 2 ^ 64 ∧ b < 2 ^ 64 then 2
  else if b = 2 ^ b.log2 then 3
  else if a < b then 4
  else if a = b then 5
  else if a.log2 - b.log2 > 16 then (if b < 2 ^ 64 then 6 else 7)
  else 8

/-- FCMD names a division that could be carried out but for its divisor: the word of a legal division command. -/
def divisionWord (w : BitVec 32) : Prop := ∃ i, decode w = .ok i ∧ isDivision i = true ∧ i.wellFormed = true

/-- The invariant of the machine. -/
structure Inv (s : State) : Prop where
  /-- STATUS[31:8] read as 0 (R24). -/
  reserved : statusReserved s.status = 0
  /-- CAUSE values 3 to 7 are never produced (R24, R141). -/
  cause : (statusCause s.status).toNat ≤ 2
  /-- DPATH values 9 to 15 are never produced (R25). -/
  dpath : (statusDpath s.status).toNat ≤ 8
  /-- CAUSE 0 means no fault, and only that (R141). -/
  faulted : s.faulted = true ↔ statusCause s.status ≠ 0
  /-- FCMD changes only at fault entry (R26). -/
  fcmdClear : s.faulted = false → s.fcmd = 0
  /-- Cause 2 records an illegal word (R143). -/
  illegal : statusCause s.status = 2 → illegalWord s.fcmd = true
  /-- Cause 1 records a division command (R142). -/
  division : statusCause s.status = 1 → divisionWord s.fcmd
  /-- While RESET is asserted STATUS and FCMD have their reset values (R153, R154). -/
  inReset : s.resetPin = true → s.status = 0 ∧ s.fcmd = 0

end Sys2Proof.Machine
end

