-- ==== Sys2Proof/Certificates/Slice0/Obligations.lean ====
section
/-! DEFINITION. The statements for the provers. In each, a statement about an instruction outside the fault state gives its
whole next state, so its frame with it: `s.after rd x` is `s` with `V[rd] = x`, an empty response and every other field
and register as in `s`; `Divided` and `FaultEntered` (Safety.lean) list every field. CORE has no memory (R31) and no flags
(R23), so no frame has anything to say of them. -/

open Sys2Proof Sys2Proof.Machine

/-- Decoding the word of any instruction gives that instruction back (30_encoding.md sections 1 to 3; derived). For
every instruction i, every operand at every value its fields admit (ill-formed ones included): decode (encode i)
= ok i. No bit of an encoding is dropped. -/
def Obligations.DecodeOfEncodeIsIdentity : Prop :=
  ∀ i : Instr, decode (encode i) = .ok i

/-- A word that decodes is the one word of the instruction it decodes to (30_encoding.md sections 1, 3 and 4;
derived). For every 32-bit word w and instruction i: if decode w = ok i then encode i = w. One word, one
meaning; no two words decode to the same instruction. -/
def Obligations.EncodeOfDecodeIsIdentity : Prop :=
  ∀ (w : BitVec 32) (i : Instr), decode w = .ok i → encode i = w

/-- A word decodes exactly when some row of the opcode map matches it under its format mask (30_encoding.md sections
1 and 3; derived). For every word w: if w decodes to i then a row (op, format) of the opcode map has w AND mask
= op zero-extended, and op is the opcode of i; and if a row matches w so, then w decodes to an instruction of
that opcode. -/
def Obligations.DecodeIsMaskAndMatch : Prop :=
  ∀ w : BitVec 32,
    (∀ i, decode w = .ok i →
      ∃ op f, (op, f) ∈ opcodeMap ∧ w &&& f.mask = op.setWidth 32 ∧ opField (encode i) = op) ∧
    (∀ op f, (op, f) ∈ opcodeMap → w &&& f.mask = op.setWidth 32 →
      ∃ i, decode w = .ok i ∧ opField (encode i) = op)

/-- Words written out by the spec decode to the instructions it names (30_encoding.md section 6, 95_test_vectors.md
section 2; derived). One word or more of each family, taken from the examples of the spec, decodes to the
instruction the spec says it is; the all-zero word and two words with a non-zero unused field do not decode. -/
def Obligations.WordsOfTheSpecDecode : Prop :=
  decode 0x00000008 = .ok .rdst ∧ decode 0x00000102 = .ok (.setu 1) ∧ decode 0x00300004 = .ok (.ldk 0 3) ∧
    decode 0x00001006 = .ok (.getc 2) ∧ decode 0x00000205 = .ok (.mov 2 0) ∧ decode 0x00001309 = .ok (.fitu64 3 2) ∧
    decode 0x00004210 = .ok (.add 2 0 1) ∧ decode 0x00005412 = .ok (.mul 4 2 1) ∧
    decode 0x00005F22 = .ok (.ult 7 3 1) ∧ decode 0x000042A0 = .ok (.ucmp64 2 0 1) ∧
    decode 0x0800034A = .ok (.shli 3 0 128) ∧ decode 0x00000A50 = .ok (.lzcnt 2 1) ∧
    decode 0x00064262 = .ok (.udivmod 2 3 0 1) ∧ decode 0x00005164 = .ok (.sdiv 1 2 1) ∧
    decode 0x000642E6 = .ok (.sdivmod64 2 3 0 1) ∧ decode 0x00001371 = .ok (.neg 3 2) ∧
    decode 0x00001730 = .ok (.scmp 7 2 0) ∧
    decode 0x00000000 = .error .reservedOpcode ∧ decode 0x00000108 = .error .unusedField ∧
    decode 0x00104010 = .error .unusedField

/-- A command word raises IllegalCommand exactly when it is illegal by R44 (R44, R143; stated). Outside the fault
state, with RESET released: a transaction whose word is illegal (no row of the opcode map matches it, or LDK
with a constant above 4, or a combined divide with equal destinations) does fault entry with cause 2 and nothing
else, whatever the registers hold; a transaction whose word is not illegal never ends in the fault state with
cause 2. -/
def Obligations.IllegalWordsFaultAndNoOthers : Prop :=
  ∀ (s : State) (w : BitVec 32) (d : Value) (rest : List HostEvent), s.input = .command w d :: rest → s.resetPin = false → s.faulted = false →
    (illegalWord w = true →
      ∃ t, step s = .next t ∧ FaultEntered { s with input := rest, cmd := w, din := d } t 2) ∧
    (illegalWord w = false → ∀ t, step s = .next t → ¬(t.faulted = true ∧ statusCause t.status = 2))

/-- A step at a pending command runs exec of the decoded instruction on the sampled ports (10_state.md section 9,
20_memory.md section 5; derived). If the next host action is the command word w with data-in d, RESET is
released and w decodes to i, then step is exec of i in the state whose CMD and DIN ports hold w and d and whose
pending actions are the rest. It holds of well-formed and ill-formed i alike. -/
def Obligations.StepRunsTheDecodedCommand : Prop :=
  ∀ (i : Instr) (s : State) (w : BitVec 32) (d : Value) (rest : List HostEvent), s.input = .command w d :: rest → s.resetPin = false → decode w = .ok i →
    step s = exec i { s with input := rest, cmd := w, din := d }

/-- Every step and every instruction of the model answers a next state; that none is refused is the choice of log
entry 1 (70_reset_and_hazards.md section 4, 60_exceptions.md section 1; derived). For every state s there is t
with step s = next t, and for every instruction i and state s there is t with exec i s = next t: no fault
outcome and no refusal is ever answered. That CORE cannot hang, and that its faults are next states, is the
spec. That no refusal is answered is the choice of the model: R20, D17 and U2 ask a model to refuse a command
that reads a register not written since reset, and here it runs on the value the register holds (log entry 1).
That a step with nothing pending and a command presented while RESET is asserted also answer a next state rests
on log entries 4 and 3. -/
def Obligations.EveryStepAnswersNext : Prop :=
  (∀ s : State, ∃ t, step s = .next t) ∧ (∀ (i : Instr) (s : State), ∃ t, exec i s = .next t)

/-- Each step consumes exactly the oldest host action of the list the model holds (log entries 3 and 4)
(20_memory.md section 5, 10_state.md section 3; derived). Whenever step s answers next t, the pending host
actions of t are those of s without the first one: commands are taken one at a time in the order of issue, and
no instruction adds, drops or reorders one. That the host actions stand in a list of State is the choice of the
model (log entry 4). That a command pending while RESET is asserted is consumed, dropped without effect, is the
choice of the model too (log entry 3): R153 does not say what becomes of it. -/
def Obligations.HostActionsAreTakenInOrder : Prop :=
  ∀ s t : State, step s = .next t → t.input = s.input.tail

/-- With no host action pending CORE is idle (60_exceptions.md section 7, 10_state.md section 9; derived). If no
host action is pending, a step leaves every field as it is, but that there is no response. The list of host
actions is the choice of the model (log entry 4). -/
def Obligations.IdleStepChangesNothing : Prop :=
  ∀ s : State, s.input = [] → step s = .next { s with dout := none }

/-- After reset STATUS and FCMD are 0, the FAULT pin is 0 and RESET is released (70_reset_and_hazards.md section 1,
10_state.md section 10; derived). State.reset has STATUS = 0 with FAULT, CAUSE and DPATH 0, FCMD = 0, the FAULT
pin 0, and accepts commands. Nothing is said of V[0..7], whose reset values are the choice of the model (log
entry 1). -/
def Obligations.ResetStateValues : Prop :=
  State.reset.status = 0 ∧ State.reset.fcmd = 0 ∧ State.reset.faultPin = false ∧ State.reset.resetPin = false ∧
    statusCause State.reset.status = 0 ∧ statusDpath State.reset.status = 0

/-- What asserting and releasing RESET do, and that no command is accepted in between (70_reset_and_hazards.md
section 1; derived). Asserting RESET in any state gives the reset values of STATUS and FCMD; releasing it
likewise, after which commands are accepted; a command presented while it is asserted has no effect and no
response; releasing a RESET that is not asserted changes nothing. The register values (log entry 1), that a
presented command is dropped, and that the reset state shows from the assertion on (log entry 3) are choices of
the model. -/
def Obligations.ResetPinEffects : Prop :=
  ∀ (s : State) (rest : List HostEvent),
    (s.input = .assertReset :: rest →
      step s = .next { s with v := State.reset.v, status := 0, fcmd := 0, resetPin := true, dout := none, input := rest }) ∧
    (s.input = .releaseReset :: rest → s.resetPin = true →
      step s = .next { s with v := State.reset.v, status := 0, fcmd := 0, resetPin := false, dout := none, input := rest }) ∧
    (s.input = .releaseReset :: rest → s.resetPin = false → step s = .next { s with dout := none, input := rest }) ∧
    (∀ w d, s.input = .command w d :: rest → s.resetPin = true → step s = .next { s with dout := none, input := rest })

/-- Fault entry sets FAULT, CAUSE and FCMD, and changes nothing else (R146; stated). For either cause and every
state, the state after fault entry has FAULT = 1, CAUSE the code of the cause, FCMD the command word and no
response; every register, DPATH, the reserved bits of STATUS, the input ports and the pending host actions are
unchanged; the FAULT pin is 1. -/
def Obligations.FaultEntryWritesOnlyTheRecord : Prop :=
  ∀ s : State, FaultEntered s (raiseFault .divideByZero s) 1 ∧ FaultEntered s (raiseFault .illegalCommand s) 2 ∧
    ∀ c, (raiseFault c s).faultPin = true

/-- In the fault state every command but RDST is ignored (R147; stated). With FAULT = 1 and RESET released, a
transaction with any word other than 0x00000008, legal or not, changes nothing and has no response; the word
0x00000008 responds (FCMD, STATUS) and changes nothing. STATUS and FCMD keep their values. -/
def Obligations.FaultStateIgnoresCommands : Prop :=
  ∀ (s : State) (w : BitVec 32) (d : Value) (rest : List HostEvent), s.input = .command w d :: rest → s.resetPin = false → s.faulted = true →
    step s = .next { s with
      input := rest, cmd := w, din := d,
      dout := if w = 0x00000008 then some ⟨s.fcmd.setWidth 64, s.status.setWidth 64⟩ else none }

/-- The only exit from the fault state is RESET, and faults do not nest (R148; stated). From a state with FAULT = 1:
a step that ends with FAULT = 0 took a change of the RESET pin and left STATUS and FCMD 0; a step that ends with
FAULT = 1 left STATUS, FCMD and every register as they were. -/
def Obligations.OnlyResetLeavesTheFaultState : Prop :=
  ∀ s t : State, s.faulted = true → step s = .next t →
    (t.faulted = false →
      (∃ rest, s.input = .assertReset :: rest ∨ s.resetPin = true ∧ s.input = .releaseReset :: rest) ∧
        t.status = 0 ∧ t.fcmd = 0) ∧
    (t.faulted = true → t.status = s.status ∧ t.fcmd = s.fcmd ∧ t.v = s.v)

/-- Every step keeps the invariant of the machine (10_state.md section 5, 60_exceptions.md sections 1 and 3,
70_reset_and_hazards.md section 1; derived). From every state that meets Inv, a step that answers next t gives a
t that meets Inv. Inv: STATUS[31:8] is 0, CAUSE is at most 2, DPATH at most 8, FAULT = 1 exactly when CAUSE is
not 0, FCMD is 0 outside the fault state, with cause 2 FCMD is an illegal word and with cause 1 the word of a
legal division command, and while RESET is asserted STATUS and FCMD are 0 (this last clause rests on log entry
3). -/
def Obligations.StepKeepsTheInvariant : Prop :=
  ∀ s t : State, Inv s → step s = .next t → Inv t

/-- The reset state meets the invariant (10_state.md section 10; derived). Inv holds of State.reset. -/
def Obligations.ResetHasTheInvariant : Prop :=
  Inv State.reset

/-- A register changes only as a destination of a command that completes, or by RESET (R21; stated). If step s
answers next t and register r differs, then the step asserted RESET, or released an asserted RESET, or ran a
decoded command that names r as a destination and did not end in the fault state. -/
def Obligations.RegistersChangeOnlyAsDestinations : Prop :=
  ∀ (s t : State) (r : Reg), step s = .next t → t.readV r ≠ s.readV r →
    (∃ rest, s.input = .assertReset :: rest ∨ s.resetPin = true ∧ s.input = .releaseReset :: rest) ∨
    (∃ w d rest i, s.input = .command w d :: rest ∧ decode w = .ok i ∧ r ∈ destinations i ∧ t.faulted = false)

/-- STATUS and FCMD change only by fault entry, a completed division, or RESET (10_state.md section 5,
60_exceptions.md section 3; derived). If step s answers next t and STATUS or FCMD differs, then the step took a
change of the RESET pin, or ran a command outside the fault state that did fault entry with cause 1 or 2 and
nothing else, or ran a decoded division command whose only effect on STATUS is a DPATH of 1 to 8 and which left
FCMD alone. -/
def Obligations.StatusChangesOnlyByFaultDivisionOrReset : Prop :=
  ∀ s t : State, step s = .next t → (t.status ≠ s.status ∨ t.fcmd ≠ s.fcmd) →
    (∃ rest, s.input = .assertReset :: rest ∨ s.resetPin = true ∧ s.input = .releaseReset :: rest) ∨
    (∃ w d rest, s.input = .command w d :: rest ∧ s.resetPin = false ∧ s.faulted = false ∧
      (FaultEntered { s with input := rest, cmd := w, din := d } t 1 ∨
        FaultEntered { s with input := rest, cmd := w, din := d } t 2 ∨
        ∃ i p, decode w = .ok i ∧ isDivision i = true ∧ 1 ≤ p.toNat ∧ p.toNat ≤ 8 ∧
          Divided { s with input := rest, cmd := w, din := d } t t.v p))

/-- Only GETC, GETLO and RDST have a response (10_state.md section 9; derived). If exec i s answers next t and t
holds a response, then i is GETC, GETLO or RDST. The response of every other command is empty. -/
def Obligations.OnlyAccessorsRespond : Prop :=
  ∀ (i : Instr) (s t : State), exec i s = .next t → t.dout ≠ none → responds i

/-- DIN has no effect on any command other than SETC, SETU and SETS (10_state.md section 9; derived). For every
instruction other than SETC, SETU and SETS: replacing the DIN pair by any other before it runs changes nothing
in its next state but the DIN pair itself. -/
def Obligations.DinReachesOnlyConstructors : Prop :=
  ∀ (i : Instr) (s t : State) (d : Value), ¬usesDin i → exec i s = .next t →
    exec i { s with din := d } = .next { t with din := d }

/-- The sixteen 64-bit entry forms ignore the high word of their second operand register (30_encoding.md section 2;
derived). For each of the sixteen, with rs1 other than rs2: replacing V[rs2].hi by any word x before it runs
leaves STATUS, FCMD, the response, every register other than rs2, and rs2 too where the command wrote it, as
they would have been. -/
def Obligations.EntryForms64IgnoreTheHighWord : Prop :=
  ∀ (rd rd2 rs1 rs2 : Reg) (s t : State) (x : Word) (i : Instr), rs1 ≠ rs2 →
    i ∈ ([.ucmp64 rd rs1 rs2, .ult64 rd rs1 rs2, .ule64 rd rs1 rs2, .ugt64 rd rs1 rs2, .uge64 rd rs1 rs2, .scmp64
      rd rs1 rs2, .slt64 rd rs1 rs2, .sle64 rd rs1 rs2, .sgt64 rd rs1 rs2, .sge64 rd rs1 rs2, .udiv64 rd rs1
      rs2, .umod64 rd rs1 rs2, .udivmod64 rd rd2 rs1 rs2, .sdiv64 rd rs1 rs2, .smod64 rd rs1 rs2, .sdivmod64 rd
      rd2 rs1 rs2] : List Instr) →
    exec i s = .next t →
    ∃ t', exec i { s with v := s.v.set rs2.val ⟨x, (s.readV rs2).lo⟩ } = .next t' ∧
      t'.status = t.status ∧ t'.fcmd = t.fcmd ∧ t'.dout = t.dout ∧
      ∀ r, r ≠ rs2 ∨ (r ∈ destinations i ∧ t.faulted = false) → t'.readV r = t.readV r

/-- SETC, SETU and SETS load the DIN pair, its low word zero-extended, its low word sign-extended (R47, R48, R49;
stated). Encodings of formats D; outside the fault state SETC writes (DIN_HI, DIN_LO); SETU writes (0, DIN_LO),
whose unsigned reading is DIN_LO; SETS writes the value whose low word is DIN_LO and whose signed reading is
that of DIN_LO as a twos-complement 64-bit integer; each changes nothing else and has no response. -/
def Obligations.ConstructorsLoadDin : Prop :=
  ∀ (rd : Reg) (s : State), s.faulted = false →
    decode (pack 0 0 0 0 rd 0x01) = .ok (.setc rd) ∧
    decode (pack 0 0 0 0 rd 0x02) = .ok (.setu rd) ∧
    decode (pack 0 0 0 0 rd 0x03) = .ok (.sets rd) ∧
    exec (.setc rd) s = .next (s.after rd (s.din)) ∧
    (∃ x, exec (.setu rd) s = .next (s.after rd x) ∧ x.hi = 0 ∧ x.uval = s.din.lo.toNat) ∧
    (∃ x, exec (.sets rd) s = .next (s.after rd x) ∧ x.lo = s.din.lo ∧ x.sval = s.din.lo.toInt)

/-- LDK loads ZERO, ONE, MAXU, MAXS or MINS for 0 to 4 and raises IllegalCommand above 4 (R50; stated). Encoding of
format K; outside the fault state LDK with k = 0, 1, 2, 3, 4 writes the constant of that number to V[rd] and
nothing else; with any k above 4 it does fault entry with cause 2. -/
def Obligations.LdkLoadsTheNamedConstants : Prop :=
  ∀ (rd : Reg) (s : State), s.faulted = false →
    (∀ k, decode (pack k 0 0 0 rd 0x04) = .ok (.ldk rd k)) ∧
    exec (.ldk rd 0) s = .next (s.after rd ⟨0, 0⟩) ∧
    exec (.ldk rd 1) s = .next (s.after rd ⟨0, 1⟩) ∧
    exec (.ldk rd 2) s = .next (s.after rd ⟨0xFFFFFFFFFFFFFFFF, 0xFFFFFFFFFFFFFFFF⟩) ∧
    exec (.ldk rd 3) s = .next (s.after rd ⟨0x7FFFFFFFFFFFFFFF, 0xFFFFFFFFFFFFFFFF⟩) ∧
    exec (.ldk rd 4) s = .next (s.after rd ⟨0x8000000000000000, 0⟩) ∧
    ∀ k : BitVec 12, 4 < k.toNat → EntersFault (.ldk rd k) s 2

/-- MOV copies a register bit for bit and changes nothing else (R51; stated). Encoding of format U; outside the
fault state MOV writes V[rs1] to V[rd] and changes nothing else; with rd = rs1 no register changes. -/
def Obligations.MovCopiesARegister : Prop :=
  ∀ (rd rs1 : Reg) (s : State), s.faulted = false →
    decode (pack 0 0 0 rs1 rd 0x05) = .ok (.mov rd rs1) ∧
    exec (.mov rd rs1) s = .next (s.after rd (s.readV rs1)) ∧
    exec (.mov rd rd) s = .next { s with dout := none }

/-- GETC, GETLO and RDST respond and write no state; RDST alone has an effect in the fault state (R52, R53, R54;
stated). Encodings of formats S and Z; outside the fault state GETC responds V[rs1] and GETLO responds (0,
V[rs1].lo); in every state RDST responds (FCMD, STATUS), each zero-extended to 64 bits; none writes any state;
in the fault state every other command leaves the state as it is, with no response. -/
def Obligations.AccessorsRespondWithoutWriting : Prop :=
  ∀ (rs1 : Reg) (s : State),
    decode (pack 0 0 0 rs1 0 0x06) = .ok (.getc rs1) ∧
    decode (pack 0 0 0 rs1 0 0x07) = .ok (.getlo rs1) ∧
    decode (pack 0 0 0 0 0 0x08) = .ok (.rdst) ∧
    (s.faulted = false → exec (.getc rs1) s = .next (s.answering ⟨(s.readV rs1).hi, (s.readV rs1).lo⟩)) ∧
    (s.faulted = false → exec (.getlo rs1) s = .next (s.answering ⟨0, (s.readV rs1).lo⟩)) ∧
    exec .rdst s = .next (s.answering ⟨s.fcmd.setWidth 64, s.status.setWidth 64⟩) ∧
    (s.faulted = true → ∀ i, i ≠ .rdst → exec i s = .next { s with dout := none })

/-- ADD and SUB compute the sum and difference modulo 2^128 (R55, R56; stated). Encodings of format R; outside the
fault state ADD writes u128(uval(A) + uval(B)) and SUB writes u128(uval(A) - uval(B)) to V[rd], for any
registers, equal or not; nothing else changes and nothing faults. -/
def Obligations.AddAndSubWrap : Prop :=
  ∀ (rd rs1 rs2 : Reg) (s : State), s.faulted = false →
    let a := s.readV rs1
    let b := s.readV rs2
    decode (pack 0 0 rs2 rs1 rd 0x10) = .ok (.add rd rs1 rs2) ∧
    decode (pack 0 0 rs2 rs1 rd 0x11) = .ok (.sub rd rs1 rs2) ∧
    exec (.add rd rs1 rs2) s = .next (s.after rd (u128 ((a.uval : Int) + b.uval))) ∧
    exec (.sub rd rs1 rs2) s = .next (s.after rd (u128 ((a.uval : Int) - b.uval)))

/-- INC and DEC add and subtract one modulo 2^128, as ADD and SUB of ONE do (R58, R59; stated). Encodings of format
U; outside the fault state INC writes u128(uval(A) + 1) and DEC writes u128(uval(A) - 1) to V[rd]; nothing else
changes. Where V[rs2] is ONE, ADD and SUB give the same next states. -/
def Obligations.IncAndDecWrap : Prop :=
  ∀ (rd rs1 rs2 : Reg) (s : State), s.faulted = false →
    let a := s.readV rs1
    decode (pack 0 0 0 rs1 rd 0x14) = .ok (.inc rd rs1) ∧
    decode (pack 0 0 0 rs1 rd 0x15) = .ok (.dec rd rs1) ∧
    exec (.inc rd rs1) s = .next (s.after rd (u128 ((a.uval : Int) + 1))) ∧
    exec (.dec rd rs1) s = .next (s.after rd (u128 ((a.uval : Int) - 1))) ∧
    (s.readV rs2 = one → exec (.add rd rs1 rs2) s = exec (.inc rd rs1) s) ∧
    (s.readV rs2 = one → exec (.sub rd rs1 rs2) s = exec (.dec rd rs1) s)

/-- MUL is the product modulo 2^128; MULW is the exact product of the low words (R60, R61; stated). Encodings of
format R; outside the fault state MUL writes u128(uval(A) * uval(B)), whose high word is the high word of the
low product plus both cross terms; MULW writes the value whose unsigned reading is exactly A.lo * B.lo, whatever
the high words hold; nothing else changes. -/
def Obligations.MulTruncatesAndMulwIsExact : Prop :=
  ∀ (rd rs1 rs2 : Reg) (s : State), s.faulted = false →
    let a := s.readV rs1
    let b := s.readV rs2
    decode (pack 0 0 rs2 rs1 rd 0x12) = .ok (.mul rd rs1 rs2) ∧
    decode (pack 0 0 rs2 rs1 rd 0x13) = .ok (.mulw rd rs1 rs2) ∧
    exec (.mul rd rs1 rs2) s = .next (s.after rd (u128 ((a.uval : Int) * b.uval))) ∧
    (∃ x, exec (.mulw rd rs1 rs2) s = .next (s.after rd x) ∧ x.uval = a.lo.toNat * b.lo.toNat)

/-- ADD, SUB, MUL, INC and DEC are also the signed operations, wrapped into the signed range (R57; stated). Outside
the fault state each of the five writes a value whose signed reading is the exact signed result brought into
-2^127 .. 2^127 - 1 modulo 2^128 (balanced remainder); nothing else changes. -/
def Obligations.SignedReadingOfArithmetic : Prop :=
  ∀ (rd rs1 rs2 : Reg) (s : State), s.faulted = false →
    let a := s.readV rs1
    let b := s.readV rs2
    (∃ x, exec (.add rd rs1 rs2) s = .next (s.after rd x) ∧ x.sval = Int.bmod (a.sval + b.sval) (2 ^ 128)) ∧
    (∃ x, exec (.sub rd rs1 rs2) s = .next (s.after rd x) ∧ x.sval = Int.bmod (a.sval - b.sval) (2 ^ 128)) ∧
    (∃ x, exec (.mul rd rs1 rs2) s = .next (s.after rd x) ∧ x.sval = Int.bmod (a.sval * b.sval) (2 ^ 128)) ∧
    (∃ x, exec (.inc rd rs1) s = .next (s.after rd x) ∧ x.sval = Int.bmod (a.sval + 1) (2 ^ 128)) ∧
    (∃ x, exec (.dec rd rs1) s = .next (s.after rd x) ∧ x.sval = Int.bmod (a.sval - 1) (2 ^ 128))

/-- The laws of the adder and multiplier: a + 0, a * 1, a - a, and the two wraps (R62; stated). Outside the fault
state: ADD of ZERO and MUL by ONE write a; SUB of an equal value writes ZERO; ADD of MAXU and ONE writes ZERO;
ADD of MAXS and ONE writes MINS. -/
def Obligations.ArithmeticLaws : Prop :=
  ∀ (rd rs1 rs2 : Reg) (s : State), s.faulted = false →
    let a := s.readV rs1
    let b := s.readV rs2
    (b = zero → exec (.add rd rs1 rs2) s = .next (s.after rd a)) ∧
    (b = one → exec (.mul rd rs1 rs2) s = .next (s.after rd a)) ∧
    (b = a → exec (.sub rd rs1 rs2) s = .next (s.after rd zero)) ∧
    (a = maxu → b = one → exec (.add rd rs1 rs2) s = .next (s.after rd zero)) ∧
    (a = maxs → b = one → exec (.add rd rs1 rs2) s = .next (s.after rd mins))

/-- UCMP, EQ, ULT, ULE, UGT and UGE decide the order of the unsigned readings (R63, R64, R65, R66, R67, R68, R69;
stated). Encodings of format R; outside the fault state UCMP writes MAXU, ZERO or ONE as uval(A) is less than,
equal to or greater than uval(B); EQ writes ONE when both words agree, else ZERO; ULT, ULE, UGT, UGE write ONE
when uval(A) stands in that relation to uval(B), else ZERO; nothing else changes. -/
def Obligations.UnsignedCompareOrdersTheValues : Prop :=
  ∀ (rd rs1 rs2 : Reg) (s : State), s.faulted = false →
    let a := s.readV rs1
    let b := s.readV rs2
    decode (pack 0 0 rs2 rs1 rd 0x20) = .ok (.ucmp rd rs1 rs2) ∧
    decode (pack 0 0 rs2 rs1 rd 0x21) = .ok (.eq rd rs1 rs2) ∧
    decode (pack 0 0 rs2 rs1 rd 0x22) = .ok (.ult rd rs1 rs2) ∧
    decode (pack 0 0 rs2 rs1 rd 0x23) = .ok (.ule rd rs1 rs2) ∧
    decode (pack 0 0 rs2 rs1 rd 0x24) = .ok (.ugt rd rs1 rs2) ∧
    decode (pack 0 0 rs2 rs1 rd 0x25) = .ok (.uge rd rs1 rs2) ∧
    exec (.ucmp rd rs1 rs2) s = .next (s.after rd (if a.uval < b.uval then maxu else if b.uval < a.uval then one else zero)) ∧
    exec (.ult rd rs1 rs2) s = .next (s.after rd (if a.uval < b.uval then one else zero)) ∧
    exec (.ule rd rs1 rs2) s = .next (s.after rd (if a.uval ≤ b.uval then one else zero)) ∧
    exec (.ugt rd rs1 rs2) s = .next (s.after rd (if b.uval < a.uval then one else zero)) ∧
    exec (.uge rd rs1 rs2) s = .next (s.after rd (if b.uval ≤ a.uval then one else zero)) ∧
    exec (.eq rd rs1 rs2) s = .next (s.after rd (if a.hi = b.hi ∧ a.lo = b.lo then one else zero))

/-- Of ULT, EQ and UGT exactly one is ONE; ULE and UGE are their unions with EQ (42_compare.md section 3; derived).
Outside the fault state there are values lt, eq, gt, le, ge that the five predicates write to V[rd]; exactly one
of lt, eq, gt is ONE and the other two are ZERO; le is the bitwise OR of lt and eq; ge is the bitwise OR of gt
and eq. -/
def Obligations.PredicatesPartitionThePairs : Prop :=
  ∀ (rd rs1 rs2 : Reg) (s : State), s.faulted = false →
    ∃ lt eq gt le ge : Value,
      exec (.ult rd rs1 rs2) s = .next (s.after rd lt) ∧ exec (.eq rd rs1 rs2) s = .next (s.after rd eq) ∧
      exec (.ugt rd rs1 rs2) s = .next (s.after rd gt) ∧ exec (.ule rd rs1 rs2) s = .next (s.after rd le) ∧
      exec (.uge rd rs1 rs2) s = .next (s.after rd ge) ∧
      (lt = one ∧ eq = zero ∧ gt = zero ∨ lt = zero ∧ eq = one ∧ gt = zero ∨ lt = zero ∧ eq = zero ∧ gt = one) ∧
      le = bitOr lt eq ∧ ge = bitOr gt eq

/-- The unsigned 64-bit entry compares order uval(A) against the low word of V[rs2] (R71, R72, R73, R74, R75;
stated). Encodings of format R; outside the fault state UCMP64, ULT64, ULE64, UGT64, UGE64 write the result of
comparing uval(A) with V[rs2].lo as an unsigned number; the high word of V[rs2] does not enter; nothing else
changes. -/
def Obligations.UnsignedCompare64 : Prop :=
  ∀ (rd rs1 rs2 : Reg) (s : State), s.faulted = false →
    let a := (s.readV rs1).uval
    let y := (s.readV rs2).lo.toNat
    decode (pack 0 0 rs2 rs1 rd 0xA0) = .ok (.ucmp64 rd rs1 rs2) ∧
    decode (pack 0 0 rs2 rs1 rd 0xA2) = .ok (.ult64 rd rs1 rs2) ∧
    decode (pack 0 0 rs2 rs1 rd 0xA3) = .ok (.ule64 rd rs1 rs2) ∧
    decode (pack 0 0 rs2 rs1 rd 0xA4) = .ok (.ugt64 rd rs1 rs2) ∧
    decode (pack 0 0 rs2 rs1 rd 0xA5) = .ok (.uge64 rd rs1 rs2) ∧
    exec (.ucmp64 rd rs1 rs2) s = .next (s.after rd (if a < y then maxu else if y < a then one else zero)) ∧
    exec (.ult64 rd rs1 rs2) s = .next (s.after rd (if a < y then one else zero)) ∧
    exec (.ule64 rd rs1 rs2) s = .next (s.after rd (if a ≤ y then one else zero)) ∧
    exec (.ugt64 rd rs1 rs2) s = .next (s.after rd (if y < a then one else zero)) ∧
    exec (.uge64 rd rs1 rs2) s = .next (s.after rd (if y ≤ a then one else zero))

/-- SCMP, SLT, SLE, SGT and SGE decide the order of the signed readings (R129, R130, R131, R132, R133; stated).
Encodings of format R; outside the fault state SCMP writes MAXU, ZERO or ONE as sval(A) is less than, equal to
or greater than sval(B); SLT, SLE, SGT, SGE write ONE when sval(A) stands in that relation to sval(B), else
ZERO; nothing else changes. -/
def Obligations.SignedCompareOrdersTheValues : Prop :=
  ∀ (rd rs1 rs2 : Reg) (s : State), s.faulted = false →
    let a := s.readV rs1
    let b := s.readV rs2
    decode (pack 0 0 rs2 rs1 rd 0x30) = .ok (.scmp rd rs1 rs2) ∧
    decode (pack 0 0 rs2 rs1 rd 0x32) = .ok (.slt rd rs1 rs2) ∧
    decode (pack 0 0 rs2 rs1 rd 0x33) = .ok (.sle rd rs1 rs2) ∧
    decode (pack 0 0 rs2 rs1 rd 0x34) = .ok (.sgt rd rs1 rs2) ∧
    decode (pack 0 0 rs2 rs1 rd 0x35) = .ok (.sge rd rs1 rs2) ∧
    exec (.scmp rd rs1 rs2) s = .next (s.after rd (if a.sval < b.sval then maxu else if b.sval < a.sval then one else zero)) ∧
    exec (.slt rd rs1 rs2) s = .next (s.after rd (if a.sval < b.sval then one else zero)) ∧
    exec (.sle rd rs1 rs2) s = .next (s.after rd (if a.sval ≤ b.sval then one else zero)) ∧
    exec (.sgt rd rs1 rs2) s = .next (s.after rd (if b.sval < a.sval then one else zero)) ∧
    exec (.sge rd rs1 rs2) s = .next (s.after rd (if b.sval ≤ a.sval then one else zero))

/-- The signed 64-bit entry compares order sval(A) against the low word of V[rs2] as a signed word (R134, R135,
R136, R137, R138; stated). Encodings of format R; outside the fault state SCMP64, SLT64, SLE64, SGT64, SGE64
write the result of comparing sval(A) with V[rs2].lo read as a twos-complement 64-bit integer; the high word of
V[rs2] does not enter; nothing else changes. -/
def Obligations.SignedCompare64 : Prop :=
  ∀ (rd rs1 rs2 : Reg) (s : State), s.faulted = false →
    let a := (s.readV rs1).sval
    let y := (s.readV rs2).lo.toInt
    decode (pack 0 0 rs2 rs1 rd 0xB0) = .ok (.scmp64 rd rs1 rs2) ∧
    decode (pack 0 0 rs2 rs1 rd 0xB2) = .ok (.slt64 rd rs1 rs2) ∧
    decode (pack 0 0 rs2 rs1 rd 0xB3) = .ok (.sle64 rd rs1 rs2) ∧
    decode (pack 0 0 rs2 rs1 rd 0xB4) = .ok (.sgt64 rd rs1 rs2) ∧
    decode (pack 0 0 rs2 rs1 rd 0xB5) = .ok (.sge64 rd rs1 rs2) ∧
    exec (.scmp64 rd rs1 rs2) s = .next (s.after rd (if a < y then maxu else if y < a then one else zero)) ∧
    exec (.slt64 rd rs1 rs2) s = .next (s.after rd (if a < y then one else zero)) ∧
    exec (.sle64 rd rs1 rs2) s = .next (s.after rd (if a ≤ y then one else zero)) ∧
    exec (.sgt64 rd rs1 rs2) s = .next (s.after rd (if y < a then one else zero)) ∧
    exec (.sge64 rd rs1 rs2) s = .next (s.after rd (if y ≤ a then one else zero))

/-- NOT, AND, OR and XOR work bit by bit on each word (R76, R77, R78, R79; stated). Encodings of formats U and R;
outside the fault state NOT writes the complement of both words, whose unsigned reading is 2^128 - 1 - uval(A)
and whose signed reading is -sval(A) - 1; AND, OR, XOR write the word-wise conjunction, disjunction and
exclusive or; nothing else changes. -/
def Obligations.LogicWorksPerWord : Prop :=
  ∀ (rd rs1 rs2 : Reg) (s : State), s.faulted = false →
    let a := s.readV rs1
    let b := s.readV rs2
    decode (pack 0 0 0 rs1 rd 0x40) = .ok (.not rd rs1) ∧
    decode (pack 0 0 rs2 rs1 rd 0x41) = .ok (.and rd rs1 rs2) ∧
    decode (pack 0 0 rs2 rs1 rd 0x42) = .ok (.or rd rs1 rs2) ∧
    decode (pack 0 0 rs2 rs1 rd 0x43) = .ok (.xor rd rs1 rs2) ∧
    (∃ x, exec (.not rd rs1) s = .next (s.after rd x) ∧
      x.hi = a.hi ^^^ 0xFFFFFFFFFFFFFFFF ∧ x.lo = a.lo ^^^ 0xFFFFFFFFFFFFFFFF ∧
      (x.uval : Int) = 2 ^ 128 - 1 - a.uval ∧ x.sval = -a.sval - 1) ∧
    exec (.and rd rs1 rs2) s = .next (s.after rd ⟨a.hi &&& b.hi, a.lo &&& b.lo⟩) ∧
    exec (.or rd rs1 rs2) s = .next (s.after rd ⟨a.hi ||| b.hi, a.lo ||| b.lo⟩) ∧
    exec (.xor rd rs1 rs2) s = .next (s.after rd ⟨a.hi ^^^ b.hi, a.lo ^^^ b.lo⟩)

/-- SHL and SHR shift by the whole count register, losing bits without notice (R80, R81; stated). Encodings of
format R; with n = uval(B), of any size, outside the fault state SHL writes u128(uval(A) * 2^n) and SHR writes
uval(A) div 2^n, so that both write ZERO for every n of 128 or more; nothing else changes. -/
def Obligations.ShiftsByARegister : Prop :=
  ∀ (rd rs1 rs2 : Reg) (s : State), s.faulted = false →
    let a := s.readV rs1
    let n := (s.readV rs2).uval
    decode (pack 0 0 rs2 rs1 rd 0x48) = .ok (.shl rd rs1 rs2) ∧
    decode (pack 0 0 rs2 rs1 rd 0x49) = .ok (.shr rd rs1 rs2) ∧
    exec (.shl rd rs1 rs2) s = .next (s.after rd (u128 ((a.uval * 2 ^ n : Nat) : Int))) ∧
    exec (.shr rd rs1 rs2) s = .next (s.after rd (u128 ((a.uval / 2 ^ n : Nat) : Int))) ∧
    (128 ≤ n → exec (.shl rd rs1 rs2) s = .next (s.after rd zero) ∧ exec (.shr rd rs1 rs2) s = .next (s.after rd zero))

/-- SHLI and SHRI shift by the unsigned 12-bit immediate, used as is (R82, R83; stated). Encodings of format I; with
n = imm12, 0 to 4095, outside the fault state SHLI writes u128(uval(A) * 2^n) and SHRI writes uval(A) div 2^n:
ZERO for every n of 128 or more; nothing else changes. -/
def Obligations.ShiftsByAnImmediate : Prop :=
  ∀ (rd rs1 : Reg) (imm : BitVec 12) (s : State), s.faulted = false →
    let a := s.readV rs1
    let n := imm.toNat
    decode (pack imm 0 0 rs1 rd 0x4A) = .ok (.shli rd rs1 imm) ∧
    decode (pack imm 0 0 rs1 rd 0x4B) = .ok (.shri rd rs1 imm) ∧
    exec (.shli rd rs1 imm) s = .next (s.after rd (u128 ((a.uval * 2 ^ n : Nat) : Int))) ∧
    exec (.shri rd rs1 imm) s = .next (s.after rd (u128 ((a.uval / 2 ^ n : Nat) : Int))) ∧
    (128 ≤ n → exec (.shli rd rs1 imm) s = .next (s.after rd zero) ∧ exec (.shri rd rs1 imm) s = .next (s.after rd zero))

/-- Shifting there and back restores a value that loses no bit, and masks it otherwise (R84; stated). For every
value v and count n: SHR(SHL(v, n), n) = v when n <= LZCNT(v); SHL(SHR(v, n), n) = v when n <= TZCNT(v); SHL(v,
128) = ZERO; and SHR(SHL(v, n), n) = v AND SHR(MAXU, n) for every n. -/
def Obligations.ShiftLaws : Prop :=
  ∀ (v : Value) (n : Nat),
    (n ≤ lzcnt v → shr (shl v n) n = v) ∧ (n ≤ tzcnt v → shl (shr v n) n = v) ∧ shl v 128 = zero ∧
    shr (shl v n) n = bitAnd v (shr maxu n)

/-- LZCNT, TZCNT, POPCNT and BITLEN write the counts of the unsigned reading (R85, R86, R87, R88, R89; stated).
Encodings of format U; outside the fault state, with a = uval(A): LZCNT writes 128 for 0 and 127 minus the
position of the highest set bit otherwise; TZCNT writes 128 for 0 and the position of the lowest set bit
otherwise; POPCNT writes the number of set bits; BITLEN writes 0 for 0 and one more than the position of the
highest set bit otherwise; nothing else changes. -/
def Obligations.BitCountsByNumbers : Prop :=
  ∀ (rd rs1 : Reg) (s : State), s.faulted = false →
    let a := (s.readV rs1).uval
    decode (pack 0 0 0 rs1 rd 0x50) = .ok (.lzcnt rd rs1) ∧
    decode (pack 0 0 0 rs1 rd 0x51) = .ok (.tzcnt rd rs1) ∧
    decode (pack 0 0 0 rs1 rd 0x52) = .ok (.popcnt rd rs1) ∧
    decode (pack 0 0 0 rs1 rd 0x53) = .ok (.bitlen rd rs1) ∧
    exec (.lzcnt rd rs1) s = .next (s.after rd (u128 ((if a = 0 then 128 else 127 - a.log2 : Nat) : Int))) ∧
    (∃ k : Nat, exec (.tzcnt rd rs1) s = .next (s.after rd (u128 (k : Int))) ∧
      (a = 0 → k = 128) ∧ (a ≠ 0 → a.testBit k = true ∧ ∀ j, j < k → a.testBit j = false)) ∧
    exec (.popcnt rd rs1) s = .next (s.after rd (u128 (((List.range 128).countP fun j => a.testBit j : Nat) : Int))) ∧
    exec (.bitlen rd rs1) s = .next (s.after rd (u128 ((if a = 0 then 0 else a.log2 + 1 : Nat) : Int)))

/-- Leading plus trailing zeros sum to 127 exactly for the powers of two (R90; stated). For every value A other than
ZERO: LZCNT(A) + TZCNT(A) = 127 exactly when uval(A) is a power of two, and then uval(A) = 2^TZCNT(A); POPCNT(A)
= 1 is the same condition; otherwise the sum is at most 126. For ZERO the sum is 256. -/
def Obligations.PowerOfTwoTest : Prop :=
  (∀ a : Value, a ≠ zero →
      (lzcnt a + tzcnt a = 127 ↔ ∃ k, a.uval = 2 ^ k) ∧
      (popcnt a = 1 ↔ ∃ k, a.uval = 2 ^ k) ∧
      ((∃ k, a.uval = 2 ^ k) → a.uval = 2 ^ tzcnt a) ∧
      ((¬∃ k, a.uval = 2 ^ k) → lzcnt a + tzcnt a ≤ 126)) ∧
    lzcnt zero + tzcnt zero = 256

/-- BIT and BITI read the indexed bit, ZERO out of range (R91, R92; stated). Encodings of formats R and I; outside
the fault state BIT with i = uval(B) of any size and BITI with i = imm12 write ONE when bit i of uval(A) is set
and ZERO otherwise, so ZERO for every i of 128 or more; nothing else changes. -/
def Obligations.BitTestReadsTheIndexedBit : Prop :=
  ∀ (rd rs1 rs2 : Reg) (imm : BitVec 12) (s : State), s.faulted = false →
    let a := s.readV rs1
    let i := (s.readV rs2).uval
    decode (pack 0 0 rs2 rs1 rd 0x54) = .ok (.bit rd rs1 rs2) ∧
    decode (pack imm 0 0 rs1 rd 0x55) = .ok (.biti rd rs1 imm) ∧
    exec (.bit rd rs1 rs2) s = .next (s.after rd (if a.uval.testBit i then one else zero)) ∧
    exec (.biti rd rs1 imm) s = .next (s.after rd (if a.uval.testBit imm.toNat then one else zero)) ∧
    (128 ≤ i → exec (.bit rd rs1 rs2) s = .next (s.after rd zero)) ∧
    (128 ≤ imm.toNat → exec (.biti rd rs1 imm) s = .next (s.after rd zero))

/-- BSET, BCLR, BSETI and BCLRI change the indexed bit and no other; out of range they copy A (R93, R94, R95, R96;
stated). Encodings of formats R and I; outside the fault state, with i = uval(B) of any size or i = imm12: the
value written has bit i set (BSET, BSETI) or cleared (BCLR, BCLRI) when i < 128, every other bit as in A, and is
A itself when i >= 128; nothing else changes. -/
def Obligations.BitSetAndClearChangeOneBit : Prop :=
  ∀ (rd rs1 rs2 : Reg) (imm : BitVec 12) (s : State), s.faulted = false →
    let a := s.readV rs1
    let i := (s.readV rs2).uval
    let n := imm.toNat
    decode (pack 0 0 rs2 rs1 rd 0x56) = .ok (.bset rd rs1 rs2) ∧
    decode (pack 0 0 rs2 rs1 rd 0x57) = .ok (.bclr rd rs1 rs2) ∧
    decode (pack imm 0 0 rs1 rd 0x58) = .ok (.bseti rd rs1 imm) ∧
    decode (pack imm 0 0 rs1 rd 0x59) = .ok (.bclri rd rs1 imm) ∧
    (∃ x, exec (.bset rd rs1 rs2) s = .next (s.after rd x) ∧
      (∀ j, x.uval.testBit j = (a.uval.testBit j || (decide (j = i) && decide (i < 128)))) ∧ (128 ≤ i → x = a)) ∧
    (∃ x, exec (.bclr rd rs1 rs2) s = .next (s.after rd x) ∧
      (∀ j, x.uval.testBit j = (a.uval.testBit j && !decide (j = i))) ∧ (128 ≤ i → x = a)) ∧
    (∃ x, exec (.bseti rd rs1 imm) s = .next (s.after rd x) ∧
      (∀ j, x.uval.testBit j = (a.uval.testBit j || (decide (j = n) && decide (n < 128)))) ∧ (128 ≤ n → x = a)) ∧
    (∃ x, exec (.bclri rd rs1 imm) s = .next (s.after rd x) ∧
      (∀ j, x.uval.testBit j = (a.uval.testBit j && !decide (j = n))) ∧ (128 ≤ n → x = a))

/-- SetBit(i, b) is the set or the clear command of its bit; the bit reads back and no other bit changes (R97;
stated). SetBit with b = 1 is BSET (index in a register) or BSETI (immediate), with b = 0 BCLR or BCLRI. For
every A and i < 128: BIT(BSET(A, i), i) = ONE and BIT(BCLR(A, i), i) = ZERO, and every bit j other than i reads
as in A after either. -/
def Obligations.SetBitLaws : Prop :=
  (∀ rd rs1 rs2 : Reg, expand (.setbitr rd rs1 rs2 true) = .bset rd rs1 rs2 ∧
      expand (.setbitr rd rs1 rs2 false) = .bclr rd rs1 rs2) ∧
    (∀ (rd rs1 : Reg) (imm : BitVec 12), expand (.setbit rd rs1 imm true) = .bseti rd rs1 imm ∧
      expand (.setbit rd rs1 imm false) = .bclri rd rs1 imm) ∧
    ∀ (a : Value) (i : Nat), i < 128 →
      truth (bit (bset a i) i) = one ∧ truth (bit (bclr a i) i) = zero ∧
      ∀ j, j ≠ i → bit (bset a i) j = bit a j ∧ bit (bclr a i) j = bit a j

/-- Each pseudo-instruction expands to exactly one command; inequality is EQ followed by XOR with ONE (R46; stated).
The transaction assembled from each of SADD, SSUB, SMUL, SINC, SDEC, SETBIT, SETBITR, ZERO and ONE is one
command word, which decodes to the command the table names; XOR of ONE with the result of EQ is ONE exactly when
the two values differ. -/
def Obligations.PseudoInstructionsAreOneCommand : Prop :=
  ∀ (rd rs1 rs2 : Reg) (imm : BitVec 12) (pins : Value),
    assemble pins (.pseudo (.sadd rd rs1 rs2)) = .command (encode (.add rd rs1 rs2)) pins ∧
    assemble pins (.pseudo (.ssub rd rs1 rs2)) = .command (encode (.sub rd rs1 rs2)) pins ∧
    assemble pins (.pseudo (.smul rd rs1 rs2)) = .command (encode (.mul rd rs1 rs2)) pins ∧
    assemble pins (.pseudo (.sinc rd rs1)) = .command (encode (.inc rd rs1)) pins ∧
    assemble pins (.pseudo (.sdec rd rs1)) = .command (encode (.dec rd rs1)) pins ∧
    assemble pins (.pseudo (.setbit rd rs1 imm true)) = .command (encode (.bseti rd rs1 imm)) pins ∧
    assemble pins (.pseudo (.setbit rd rs1 imm false)) = .command (encode (.bclri rd rs1 imm)) pins ∧
    assemble pins (.pseudo (.setbitr rd rs1 rs2 true)) = .command (encode (.bset rd rs1 rs2)) pins ∧
    assemble pins (.pseudo (.setbitr rd rs1 rs2 false)) = .command (encode (.bclr rd rs1 rs2)) pins ∧
    assemble pins (.pseudo (.zero rd)) = .command (encode (.ldk rd 0)) pins ∧
    assemble pins (.pseudo (.one rd)) = .command (encode (.ldk rd 1)) pins ∧
    (∀ p, decode (encode (expand p)) = .ok (expand p)) ∧
    ∀ a b : Value, bitXor (truth (eqv a b)) one = if a = b then zero else one

/-- UDIV, UMOD and UDIVMOD write the quotient and remainder and the path, or fault (R111, R112, R113; stated).
Encodings of formats R and Q; outside the fault state, for a non-zero divisor: UDIV writes uval(A) div uval(B),
UMOD uval(A) mod uval(B), UDIVMOD with rd other than rd2 both, DPATH becomes the branch the policy selects,
nothing else changes. For a zero divisor each faults with cause 1 (UDIVMOD with rd other than rd2); UDIVMOD with
rd = rd2 faults with cause 2 whatever the divisor. -/
def Obligations.UnsignedDivision : Prop :=
  ∀ (rd rd2 rs1 rs2 : Reg) (s : State), s.faulted = false →
    let a := s.readV rs1
    let b := s.readV rs2
    let q := u128 ((a.uval / b.uval : Nat) : Int)
    let r := u128 ((a.uval % b.uval : Nat) : Int)
    let path := pathByNumbers a.uval b.uval
    decode (pack 0 0 rs2 rs1 rd 0x60) = .ok (.udiv rd rs1 rs2) ∧
    decode (pack 0 0 rs2 rs1 rd 0x61) = .ok (.umod rd rs1 rs2) ∧
    decode (pack 0 rd2 rs2 rs1 rd 0x62) = .ok (.udivmod rd rd2 rs1 rs2) ∧
    (b ≠ zero →
      CompletesDivision (.udiv rd rs1 rs2) s (s.v.set rd.val q) path ∧
      CompletesDivision (.umod rd rs1 rs2) s (s.v.set rd.val r) path ∧
      (rd ≠ rd2 → CompletesDivision (.udivmod rd rd2 rs1 rs2) s ((s.v.set rd.val q).set rd2.val r) path)) ∧
    (b = zero →
      EntersFault (.udiv rd rs1 rs2) s 1 ∧ EntersFault (.umod rd rs1 rs2) s 1 ∧
      (rd ≠ rd2 → EntersFault (.udivmod rd rd2 rs1 rs2) s 1)) ∧
    (rd = rd2 → EntersFault (.udivmod rd rd2 rs1 rs2) s 2)

/-- The unsigned 64-bit entry divisions divide by the low word of V[rs2]; only paths 1, 2, 3, 6, 8 occur (R114,
R115, R116; stated). As the 128-bit forms with the divisor V[rs2].lo read as an unsigned number, V[rs2].hi not
entering: results, DPATH, faults with cause 1 exactly for a zero low word (a combined form needs rd other than
rd2) and with cause 2 for rd = rd2. For a non-zero low word the path is 1, 2, 3, 6 or 8. -/
def Obligations.UnsignedDivision64 : Prop :=
  ∀ (rd rd2 rs1 rs2 : Reg) (s : State), s.faulted = false →
    let a := (s.readV rs1).uval
    let y := (s.readV rs2).lo.toNat
    let q := u128 ((a / y : Nat) : Int)
    let r := u128 ((a % y : Nat) : Int)
    let path := pathByNumbers a y
    decode (pack 0 0 rs2 rs1 rd 0xE0) = .ok (.udiv64 rd rs1 rs2) ∧
    decode (pack 0 0 rs2 rs1 rd 0xE1) = .ok (.umod64 rd rs1 rs2) ∧
    decode (pack 0 rd2 rs2 rs1 rd 0xE2) = .ok (.udivmod64 rd rd2 rs1 rs2) ∧
    (y ≠ 0 →
      CompletesDivision (.udiv64 rd rs1 rs2) s (s.v.set rd.val q) path ∧
      CompletesDivision (.umod64 rd rs1 rs2) s (s.v.set rd.val r) path ∧
      (rd ≠ rd2 → CompletesDivision (.udivmod64 rd rd2 rs1 rs2) s ((s.v.set rd.val q).set rd2.val r) path)) ∧
    (y = 0 →
      EntersFault (.udiv64 rd rs1 rs2) s 1 ∧ EntersFault (.umod64 rd rs1 rs2) s 1 ∧
      (rd ≠ rd2 → EntersFault (.udivmod64 rd rd2 rs1 rs2) s 1)) ∧
    (rd = rd2 → EntersFault (.udivmod64 rd rd2 rs1 rs2) s 2) ∧
    (y ≠ 0 → path = 1 ∨ path = 2 ∨ path = 3 ∨ path = 6 ∨ path = 8)

/-- SDIV, SMOD and SDIVMOD truncate toward zero; the remainder has the sign of the dividend (R117, R118, R119, R120;
stated). Encodings of formats R and Q; outside the fault state, for a non-zero divisor: the quotient written is
sval(A) / sval(B) rounded toward zero, wrapped modulo 2^128 (which differs from the exact one only for MINS /
-1, giving MINS), the remainder is that of the truncated division, DPATH is the path of the unsigned division of
the magnitudes, nothing else changes. Zero divisors fault with cause 1, a combined divide with rd = rd2 with
cause 2. -/
def Obligations.SignedDivision : Prop :=
  ∀ (rd rd2 rs1 rs2 : Reg) (s : State), s.faulted = false →
    let a := s.readV rs1
    let b := s.readV rs2
    let q := u128 (a.sval.tdiv b.sval)
    let r := u128 (a.sval.tmod b.sval)
    let path := pathByNumbers a.sval.natAbs b.sval.natAbs
    decode (pack 0 0 rs2 rs1 rd 0x64) = .ok (.sdiv rd rs1 rs2) ∧
    decode (pack 0 0 rs2 rs1 rd 0x65) = .ok (.smod rd rs1 rs2) ∧
    decode (pack 0 rd2 rs2 rs1 rd 0x66) = .ok (.sdivmod rd rd2 rs1 rs2) ∧
    (b ≠ zero →
      CompletesDivision (.sdiv rd rs1 rs2) s (s.v.set rd.val q) path ∧
      CompletesDivision (.smod rd rs1 rs2) s (s.v.set rd.val r) path ∧
      (rd ≠ rd2 → CompletesDivision (.sdivmod rd rd2 rs1 rs2) s ((s.v.set rd.val q).set rd2.val r) path)) ∧
    (b = zero →
      EntersFault (.sdiv rd rs1 rs2) s 1 ∧ EntersFault (.smod rd rs1 rs2) s 1 ∧
      (rd ≠ rd2 → EntersFault (.sdivmod rd rd2 rs1 rs2) s 1)) ∧
    (rd = rd2 → EntersFault (.sdivmod rd rd2 rs1 rs2) s 2)

/-- The signed 64-bit entry divisions divide by the low word of V[rs2] read as a signed word (R121, R122, R123;
stated). As the 128-bit signed forms with the divisor V[rs2].lo read as a twos-complement 64-bit integer,
V[rs2].hi not entering: results, DPATH, faults with cause 1 exactly for a zero low word (a combined form needs
rd other than rd2) and with cause 2 for rd = rd2. -/
def Obligations.SignedDivision64 : Prop :=
  ∀ (rd rd2 rs1 rs2 : Reg) (s : State), s.faulted = false →
    let a := (s.readV rs1).sval
    let y := (s.readV rs2).lo.toInt
    let q := u128 (a.tdiv y)
    let r := u128 (a.tmod y)
    let path := pathByNumbers a.natAbs y.natAbs
    decode (pack 0 0 rs2 rs1 rd 0xE4) = .ok (.sdiv64 rd rs1 rs2) ∧
    decode (pack 0 0 rs2 rs1 rd 0xE5) = .ok (.smod64 rd rs1 rs2) ∧
    decode (pack 0 rd2 rs2 rs1 rd 0xE6) = .ok (.sdivmod64 rd rd2 rs1 rs2) ∧
    (y ≠ 0 →
      CompletesDivision (.sdiv64 rd rs1 rs2) s (s.v.set rd.val q) path ∧
      CompletesDivision (.smod64 rd rs1 rs2) s (s.v.set rd.val r) path ∧
      (rd ≠ rd2 → CompletesDivision (.sdivmod64 rd rd2 rs1 rs2) s ((s.v.set rd.val q).set rd2.val r) path)) ∧
    (y = 0 →
      EntersFault (.sdiv64 rd rs1 rs2) s 1 ∧ EntersFault (.smod64 rd rs1 rs2) s 1 ∧
      (rd ≠ rd2 → EntersFault (.sdivmod64 rd rd2 rs1 rs2) s 1)) ∧
    (rd = rd2 → EntersFault (.sdivmod64 rd rd2 rs1 rs2) s 2)

/-- The twelve division commands raise DivideByZero exactly when the divisor is zero, and no other does (R142;
stated). Outside the fault state: each 128-bit form does fault entry with cause 1 if and only if V[rs2] is ZERO,
each 64-bit entry form if and only if V[rs2].lo is 0 (whatever V[rs2].hi holds), the combined forms with rd
other than rd2; an instruction that does fault entry with cause 1 is one of the twelve. The dividend is
irrelevant. -/
def Obligations.DivideByZeroExactlyForZeroDivisors : Prop :=
  ∀ (rd rd2 rs1 rs2 : Reg) (s : State), s.faulted = false →
    (EntersFault (.udiv rd rs1 rs2) s 1 ↔ s.readV rs2 = zero) ∧
    (EntersFault (.umod rd rs1 rs2) s 1 ↔ s.readV rs2 = zero) ∧
    (EntersFault (.sdiv rd rs1 rs2) s 1 ↔ s.readV rs2 = zero) ∧
    (EntersFault (.smod rd rs1 rs2) s 1 ↔ s.readV rs2 = zero) ∧
    (EntersFault (.udiv64 rd rs1 rs2) s 1 ↔ (s.readV rs2).lo = 0) ∧
    (EntersFault (.umod64 rd rs1 rs2) s 1 ↔ (s.readV rs2).lo = 0) ∧
    (EntersFault (.sdiv64 rd rs1 rs2) s 1 ↔ (s.readV rs2).lo = 0) ∧
    (EntersFault (.smod64 rd rs1 rs2) s 1 ↔ (s.readV rs2).lo = 0) ∧
    (rd ≠ rd2 → (EntersFault (.udivmod rd rd2 rs1 rs2) s 1 ↔ s.readV rs2 = zero)) ∧
    (rd ≠ rd2 → (EntersFault (.sdivmod rd rd2 rs1 rs2) s 1 ↔ s.readV rs2 = zero)) ∧
    (rd ≠ rd2 → (EntersFault (.udivmod64 rd rd2 rs1 rs2) s 1 ↔ (s.readV rs2).lo = 0)) ∧
    (rd ≠ rd2 → (EntersFault (.sdivmod64 rd rd2 rs1 rs2) s 1 ↔ (s.readV rs2).lo = 0)) ∧
    ∀ i, EntersFault i s 1 → isDivision i = true

/-- Quotient times divisor plus remainder is the dividend, unsigned and signed (44_divide.md section 7; derived).
For all a and every b other than ZERO the engine answers q, r with ADD(MUL(q, b), r) = a and uval(r) < uval(b),
and the signed engine answers Q, R with ADD(MUL(Q, b), R) = a and R ZERO or of the sign bit of a; the exception
MINS / -1 included, in wrapped arithmetic. -/
def Obligations.DivisionIdentity : Prop :=
  ∀ a b : Value, b ≠ zero →
    (∃ d, udivmod a b = some d ∧ add (mul d.q b) d.r = a ∧ d.r.uval < b.uval) ∧
    (∃ d, sdivmod a b = some d ∧ add (mul d.q b) d.r = a ∧ (d.r = zero ∨ d.r.sign = a.sign))

/-- The engine that runs the routine of the selected branch computes the exact division (R98; stated). For all a and
every b other than ZERO, the engine written as the pseudocode of the selection policy (shortcuts, native
division, shift and mask, both Knuth routines, binary long division) answers exactly what the engine defined by
div and mod answers: q = u128(uval(a) div uval(b)), r = u128(uval(a) mod uval(b)), with uval(a) = uval(q) *
uval(b) + uval(r) and uval(r) < uval(b), whichever branch runs. -/
def Obligations.PolicyRoutinesComputeTheDivision : Prop :=
  ∀ a b : Value, b ≠ zero →
    ∃ d, udivmodByPolicy a b = some d ∧ udivmod a b = some d ∧
      d.q = u128 ((a.uval / b.uval : Nat) : Int) ∧ d.r = u128 ((a.uval % b.uval : Nat) : Int) ∧
      a.uval = d.q.uval * b.uval + d.r.uval ∧ d.r.uval < b.uval

/-- At step 7 the gap is 0 to 126, the quotient has gap or gap + 1 bits, and a gap above 16 selects Knuth (R106;
stated). For a non-zero divisor b, when the selected branch is a Knuth routine or the binary one, with gap =
LZCNT(b) - LZCNT(a): uval(a) > uval(b) >= 3, a.hi is not zero, b is not a power of two, LZCNT(a) <= LZCNT(b),
gap <= 126, the bit length of the quotient is gap or gap + 1, and the binary branch is the one exactly when gap
<= 16. -/
def Obligations.GapBoundsTheQuotient : Prop :=
  ∀ a b : Value, b ≠ zero →
    selectPath a b = .knuth64 ∨ selectPath a b = .knuth128 ∨ selectPath a b = .binary →
    let gap := lzcnt b - lzcnt a
    b.uval < a.uval ∧ 3 ≤ b.uval ∧ a.hi ≠ 0 ∧ (¬∃ k, b.uval = 2 ^ k) ∧ lzcnt a ≤ lzcnt b ∧ gap ≤ 126 ∧
      ((a.uval / b.uval).log2 + 1 = gap ∨ (a.uval / b.uval).log2 + 1 = gap + 1) ∧
      (selectPath a b = .binary ↔ gap ≤ 16)

/-- The 128-by-64 step of Algorithm D computes the exact quotient and remainder (44_divide.md section 3; derived).
For every non-zero v and u1 < v, div128by64 u1 u0 v is the quotient and the remainder of u1 * 2^64 + u0 by v:
two estimated 32-bit digits with at most two corrections each suffice. -/
def Obligations.Div128by64Correct : Prop :=
  ∀ u1 u0 v : Word, v ≠ 0 → u1 < v →
    (div128by64 u1 u0 v).1.toNat = (u1.toNat * 2 ^ 64 + u0.toNat) / v.toNat ∧
    (div128by64 u1 u0 v).2.toNat = (u1.toNat * 2 ^ 64 + u0.toNat) % v.toNat

/-- The path 6 routine computes the exact quotient and remainder for a one-word divisor (44_divide.md section 3;
derived). For every a and non-zero word v, knuth128by64 a v is the quotient and the remainder of uval(a) by v. -/
def Obligations.Knuth128by64Correct : Prop :=
  ∀ (a : Value) (v : Word), v ≠ 0 →
    (knuth128by64 a v).1.uval = a.uval / v.toNat ∧ (knuth128by64 a v).2.toNat = a.uval % v.toNat

/-- The path 7 routine computes the exact quotient and remainder for a two-word divisor (44_divide.md section 3;
derived). For every a and b with b.hi not zero, knuth128by128 a b is the quotient and the remainder of uval(a)
by uval(b): the estimate is the true quotient or one less, and one upward correction suffices. -/
def Obligations.Knuth128by128Correct : Prop :=
  ∀ a b : Value, b.hi ≠ 0 →
    (knuth128by128 a b).1.uval = a.uval / b.uval ∧ (knuth128by128 a b).2.uval = a.uval % b.uval

/-- The binary path computes the exact quotient and remainder (44_divide.md section 4; derived). For every a and b
with uval(a) >= uval(b) > 0, binarydiv a b, the loop of gap + 1 rounds, is the quotient and the remainder of
uval(a) by uval(b). -/
def Obligations.BinaryDivisionCorrect : Prop :=
  ∀ a b : Value, b ≠ zero → b.uval ≤ a.uval →
    (binarydiv a b).1.uval = a.uval / b.uval ∧ (binarydiv a b).2.uval = a.uval % b.uval

/-- SIGN, NEG, ABS and ABSU by the signed reading; MINS is a fixed point of NEG and ABS (R125, R126, R127, R128;
stated). Encodings of format U; outside the fault state SIGN writes -1, 0 or +1 as the sign of sval(A); NEG
writes u128(-sval(A)); ABS and ABSU write the same value, whose unsigned reading is |sval(A)| for every A, so
that sval of it is |sval(A)| for every A but MINS, for which MINS itself is written; nothing else changes. -/
def Obligations.SignConverterByNumbers : Prop :=
  ∀ (rd rs1 : Reg) (s : State), s.faulted = false →
    let a := s.readV rs1
    decode (pack 0 0 0 rs1 rd 0x70) = .ok (.sign rd rs1) ∧
    decode (pack 0 0 0 rs1 rd 0x71) = .ok (.neg rd rs1) ∧
    decode (pack 0 0 0 rs1 rd 0x72) = .ok (.abs rd rs1) ∧
    decode (pack 0 0 0 rs1 rd 0x73) = .ok (.absu rd rs1) ∧
    exec (.sign rd rs1) s = .next (s.after rd (u128 a.sval.sign)) ∧
    exec (.neg rd rs1) s = .next (s.after rd (u128 (-a.sval))) ∧
    (∃ x, exec (.abs rd rs1) s = .next (s.after rd x) ∧ exec (.absu rd rs1) s = .next (s.after rd x) ∧
      x.uval = a.sval.natAbs ∧ (a ≠ mins → x.sval = a.sval.natAbs) ∧ (a = mins → x = mins))

/-- FITU64 and FITS64 decide whether a value fits in 64 bits, unsigned and signed (R139, R140; stated). Encodings of
format U; outside the fault state FITU64 writes ONE when uval(A) <= 2^64 - 1, which is also when 0 <= sval(A) <=
2^64 - 1, and ZERO otherwise; FITS64 writes ONE when -2^63 <= sval(A) <= 2^63 - 1 and ZERO otherwise; the first
is when A.lo is uval(A), the second when A.lo as a signed word is sval(A); both are ONE exactly when uval(A) <=
2^63 - 1; nothing else changes. -/
def Obligations.NarrowingPredicatesByNumbers : Prop :=
  ∀ (rd rs1 : Reg) (s : State), s.faulted = false →
    let a := s.readV rs1
    decode (pack 0 0 0 rs1 rd 0x09) = .ok (.fitu64 rd rs1) ∧
    decode (pack 0 0 0 rs1 rd 0x0A) = .ok (.fits64 rd rs1) ∧
    exec (.fitu64 rd rs1) s = .next (s.after rd (if a.uval ≤ 2 ^ 64 - 1 then one else zero)) ∧
    exec (.fitu64 rd rs1) s = .next (s.after rd (if 0 ≤ a.sval ∧ a.sval ≤ 2 ^ 64 - 1 then one else zero)) ∧
    exec (.fits64 rd rs1) s = .next (s.after rd (if -2 ^ 63 ≤ a.sval ∧ a.sval ≤ 2 ^ 63 - 1 then one else zero)) ∧
    (a.uval ≤ 2 ^ 64 - 1 ↔ a.lo.toNat = a.uval) ∧
    (-2 ^ 63 ≤ a.sval ∧ a.sval ≤ 2 ^ 63 - 1 ↔ a.lo.toInt = a.sval) ∧
    ((a.uval ≤ 2 ^ 64 - 1 ∧ -2 ^ 63 ≤ a.sval ∧ a.sval ≤ 2 ^ 63 - 1) ↔ a.uval ≤ 2 ^ 63 - 1)
end

