-- ==== Sys2Proof/Laws/Value.lean ====
section
/-! SUPPORT. The unsigned and signed readings of a value and `u128` (spec 00_scope.md R12, R14). -/

namespace Sys2Proof.Machine

theorem uval_lt (a : Value) : a.uval < 2 ^ 128 := by
  have h1 := a.hi.isLt
  have h2 := a.lo.isLt
  unfold Value.uval
  omega

/-- A value is determined by its unsigned reading (R12). -/
theorem value_eq_of_uval {a b : Value} (h : a.uval = b.uval) : a = b := by
  have h1 := a.lo.isLt
  have h2 := b.lo.isLt
  unfold Value.uval at h
  have hhi : a.hi = b.hi := BitVec.eq_of_toNat_eq (by omega)
  have hlo : a.lo = b.lo := BitVec.eq_of_toNat_eq (by omega)
  cases a; cases b; simp_all

/-- The unsigned reading of `(h, l)` (R12). -/
theorem uval_mk (h l : Word) : Value.uval ⟨h, l⟩ = h.toNat * 2 ^ 64 + l.toNat := rfl

@[simp] theorem uval_zero : zero.uval = 0 := rfl
@[simp] theorem uval_one : one.uval = 1 := rfl

theorem uval_eq_zero_iff (a : Value) : a.uval = 0 ↔ a = zero :=
  ⟨fun h => value_eq_of_uval (h.trans uval_zero.symm), fun h => h ▸ rfl⟩

/-- The sign bit is set exactly when the unsigned reading is `2^127` or more (R12). -/
theorem sign_eq (a : Value) : a.sign = decide (2 ^ 127 ≤ a.uval) := by
  have h1 := a.hi.isLt
  have h2 := a.lo.isLt
  unfold Value.sign Value.uval
  rw [show (63 : Nat) = 64 - 1 from rfl, ← BitVec.msb_eq_getLsbD_last, BitVec.msb_eq_decide]
  simp only [decide_eq_decide]
  omega

/-- The signed reading lies in `-2^127 .. 2^127 - 1` (R12). -/
theorem sval_range (a : Value) : -2 ^ 127 ≤ a.sval ∧ a.sval < 2 ^ 127 := by
  have h := uval_lt a
  unfold Value.sval
  rw [sign_eq]
  by_cases h' : 2 ^ 127 ≤ a.uval
  · rw [decide_eq_true h', if_pos rfl]; omega
  · rw [decide_eq_false h', if_neg Bool.false_ne_true]; omega

end Sys2Proof.Machine
end

