-- ==== Sys2Proof/Laws/Datapath.lean ====
section
/-! SUPPORT. What the adder/subtractor, the multiplier and the comparator compute, as numbers (spec 41_addsub_mul.md,
42_compare.md, 45_signed.md). -/

namespace Sys2Proof.Machine

/-- `u128(n)` reads as `n mod 2^128` (R14). -/
theorem uval_u128 (n : Int) : ((u128 n).uval : Int) = n % 2 ^ 128 := by
  have h0 : 0 ≤ n % 2 ^ 128 := Int.emod_nonneg _ (by decide)
  have h1 : n % 2 ^ 128 < 2 ^ 128 := Int.emod_lt_of_pos _ (by decide)
  unfold u128 Value.uval
  simp only [BitVec.toNat_ofNat]
  omega

/-- A value is `u128(n)` when its unsigned reading is congruent to `n`. -/
theorem eq_u128_of_emod {a : Value} {n : Int} (h : (a.uval : Int) = n % 2 ^ 128) : a = u128 n :=
  value_eq_of_uval (by have := uval_u128 n; omega)

theorem add64c_fst_toNat (a b : Word) (c : Bool) :
    (add64c a b c).1.toNat = (a.toNat + b.toNat + c.toNat) % 2 ^ 64 := by
  simp [add64c]

theorem add64c_snd_toNat (a b : Word) (c : Bool) :
    (add64c a b c).2.toNat = (a.toNat + b.toNat + c.toNat) / 2 ^ 64 := by
  have ha := a.isLt
  have hb := b.isLt
  have hc := c.toNat_le
  unfold add64c
  simp only
  by_cases h : (a.toNat + b.toNat + c.toNat) / 2 ^ 64 = 1
  · rw [decide_eq_true h, h]; rfl
  · rw [decide_eq_false h]; show 0 = _; omega

theorem sub64b_fst_toNat (a b : Word) (c : Bool) :
    ((sub64b a b c).1.toNat : Int) = ((a.toNat : Int) - b.toNat - c.toNat) % 2 ^ 64 := by
  have h0 : 0 ≤ ((a.toNat : Int) - b.toNat - c.toNat) % 2 ^ 64 := Int.emod_nonneg _ (by decide)
  unfold sub64b
  simp only [BitVec.toNat_ofInt]
  omega

theorem sub64b_snd_toNat (a b : Word) (c : Bool) :
    ((sub64b a b c).2.toNat : Int) = if (a.toNat : Int) - b.toNat - c.toNat < 0 then 1 else 0 := by
  unfold sub64b
  simp only
  by_cases h : (a.toNat : Int) - b.toNat - c.toNat < 0 <;> simp [h]

/-- ADD as a number (R55). -/
theorem add_eq (a b : Value) : add a b = u128 ((a.uval : Int) + b.uval) := by
  apply eq_u128_of_emod
  have h1 := a.lo.isLt
  have h2 := b.lo.isLt
  unfold add
  simp only [add64c_fst_toNat, add64c_snd_toNat, Value.uval, Bool.toNat_false]
  omega

/-- SUB as a number (R56). -/
theorem sub_eq (a b : Value) : sub a b = u128 ((a.uval : Int) - b.uval) := by
  apply eq_u128_of_emod
  have h1 := a.lo.isLt
  have h2 := b.lo.isLt
  unfold sub
  simp only [Value.uval]
  have l := sub64b_fst_toNat a.lo b.lo false
  have c := sub64b_snd_toNat a.lo b.lo false
  have h := sub64b_fst_toNat a.hi b.hi (sub64b a.lo b.lo false).2
  simp only [Bool.toNat_false] at l c
  split at c <;> omega

theorem toNat_not (x : Word) : (x ^^^ 0xFFFFFFFFFFFFFFFF).toNat = 2 ^ 64 - 1 - x.toNat := by
  rw [show (0xFFFFFFFFFFFFFFFF : Word) = BitVec.allOnes 64 from rfl, BitVec.xor_allOnes, BitVec.toNat_not]

theorem zero_toNat : (0 : Word).toNat = 0 := rfl
theorem one_toNat : (1 : Word).toNat = 1 := rfl

/-- NEG as a number (R126). -/
theorem neg_eq (a : Value) : neg a = u128 (-(a.uval : Int)) := by
  apply eq_u128_of_emod
  have h1 := a.lo.isLt
  have h2 := a.hi.isLt
  unfold neg
  simp only [add64c_fst_toNat, add64c_snd_toNat, Value.uval, toNat_not, zero_toNat, Bool.toNat_true]
  omega

/-- INC as a number (R58). -/
theorem inc_eq (a : Value) : inc a = u128 ((a.uval : Int) + 1) := by
  apply eq_u128_of_emod
  have h1 := a.lo.isLt
  have h2 := a.hi.isLt
  unfold inc
  simp only [Value.uval]
  split <;> rename_i h
  · have h := congrArg BitVec.toNat h
    simp only [BitVec.toNat_add, one_toNat, zero_toNat] at h ⊢
    omega
  · have h : ¬(a.lo + 1).toNat = 0 := fun e => h (BitVec.eq_of_toNat_eq e)
    simp only [BitVec.toNat_add, one_toNat] at h ⊢
    omega

/-- DEC as a number (R59). -/
theorem dec_eq (a : Value) : dec a = u128 ((a.uval : Int) - 1) := by
  apply eq_u128_of_emod
  have h1 := a.lo.isLt
  have h2 := a.hi.isLt
  unfold dec
  simp only [Value.uval]
  split <;> rename_i h
  · have h := congrArg BitVec.toNat h
    simp only [BitVec.toNat_sub, one_toNat, zero_toNat] at h ⊢
    omega
  · have h : ¬a.lo.toNat = 0 := fun e => h (BitVec.eq_of_toNat_eq e)
    simp only [BitVec.toNat_sub, one_toNat] at h ⊢
    omega

/-- MULW as a number: the exact product of the low words (R61). -/
theorem mulw_uval (a b : Value) : (mulw a b).uval = a.lo.toNat * b.lo.toNat := by
  have h : a.lo.toNat * b.lo.toNat < 2 ^ 64 * 2 ^ 64 := Nat.mul_lt_mul'' a.lo.isLt b.lo.isLt
  unfold mulw mul64x64
  simp only [Value.uval, BitVec.toNat_ofNat]
  omega

/-- MUL as a number (R60). -/
theorem mul_eq (a b : Value) : mul a b = u128 ((a.uval : Int) * b.uval) := by
  apply eq_u128_of_emod
  have hp : a.lo.toNat * b.lo.toNat < 2 ^ 64 * 2 ^ 64 := Nat.mul_lt_mul'' a.lo.isLt b.lo.isLt
  have e : a.uval * b.uval = a.lo.toNat * b.lo.toNat
      + 2 ^ 64 * (a.hi.toNat * b.lo.toNat + a.lo.toNat * b.hi.toNat) + 2 ^ 128 * (a.hi.toNat * b.hi.toNat) := by
    unfold Value.uval; ring
  have e' : (a.uval : Int) * b.uval = ((a.uval * b.uval : Nat) : Int) := by push_cast; ring
  rw [e', e]
  unfold mul mul64x64 mullo64
  simp only [Value.uval, BitVec.toNat_add, BitVec.toNat_mul, BitVec.toNat_ofNat]
  generalize a.lo.toNat * b.lo.toNat = p at *
  generalize a.hi.toNat * b.lo.toNat = x
  generalize a.lo.toNat * b.hi.toNat = y
  generalize a.hi.toNat * b.hi.toNat = z
  omega

/-- The three-way unsigned compare orders the unsigned readings (R64). -/
theorem ucmp_eq (a b : Value) :
    ucmp a b = if a.uval < b.uval then -1 else if b.uval < a.uval then 1 else 0 := by
  have h1 := a.lo.isLt
  have h2 := b.lo.isLt
  unfold ucmp Value.uval
  simp only [BitVec.lt_def]
  split_ifs <;> omega

end Sys2Proof.Machine
end

