-- ==== Sys2Proof/Laws/Decode.lean ====
section
/-! SUPPORT. The fields of a packed command word, and the word of a set of fields (spec 30_encoding.md R37, R38). -/

namespace Sys2Proof

@[simp] theorem regOf_regBits (r : Reg) : regOf (regBits r) = r := by
  ext; simp [regOf, regBits]

@[simp] theorem regBits_regOf (b : BitVec 3) : regBits (regOf b) = b := by
  simp [regOf, regBits]

theorem regBits_toNat (r : Reg) : (regBits r).toNat = r.val := by
  simp [regBits]

/-- `a ++ b` as a number. -/
theorem toNat_append_eq {m n : Nat} (a : BitVec m) (b : BitVec n) :
    (a ++ b).toNat = a.toNat * 2 ^ n + b.toNat := by
  rw [BitVec.toNat_append, ← Nat.shiftLeft_add_eq_or_of_lt b.isLt, Nat.shiftLeft_eq]

/-- The packed word as a number (R45). -/
theorem pack_toNat (imm rd2 rs2 rs1 rd op) :
    (pack imm rd2 rs2 rs1 rd op).toNat =
      ((((imm.toNat * 2 ^ 3 + rd2.val) * 2 ^ 3 + rs2.val) * 2 ^ 3 + rs1.val) * 2 ^ 3 + rd.val) * 2 ^ 8 + op.toNat := by
  unfold pack
  rw [toNat_append_eq, toNat_append_eq, toNat_append_eq, toNat_append_eq, toNat_append_eq]
  simp only [regBits_toNat]

theorem opField_toNat (w : BitVec 32) : (opField w).toNat = w.toNat % 2 ^ 8 := by
  simp [opField, BitVec.extractLsb'_toNat]

theorem rdField_val (w : BitVec 32) : (rdField w).val = w.toNat / 2 ^ 8 % 2 ^ 3 := by
  simp [rdField, regOf, BitVec.extractLsb'_toNat, Nat.shiftRight_eq_div_pow]

theorem rs1Field_val (w : BitVec 32) : (rs1Field w).val = w.toNat / 2 ^ 11 % 2 ^ 3 := by
  simp [rs1Field, regOf, BitVec.extractLsb'_toNat, Nat.shiftRight_eq_div_pow]

theorem rs2Field_val (w : BitVec 32) : (rs2Field w).val = w.toNat / 2 ^ 14 % 2 ^ 3 := by
  simp [rs2Field, regOf, BitVec.extractLsb'_toNat, Nat.shiftRight_eq_div_pow]

theorem rd2Field_val (w : BitVec 32) : (rd2Field w).val = w.toNat / 2 ^ 17 % 2 ^ 3 := by
  simp [rd2Field, regOf, BitVec.extractLsb'_toNat, Nat.shiftRight_eq_div_pow]

theorem immField_toNat (w : BitVec 32) : (immField w).toNat = w.toNat / 2 ^ 20 := by
  have := w.isLt
  simp [immField, BitVec.extractLsb'_toNat, Nat.shiftRight_eq_div_pow]
  omega

/-- A packed word has the fields it was packed from. -/
@[simp] theorem opField_pack (imm rd2 rs2 rs1 rd op) : opField (pack imm rd2 rs2 rs1 rd op) = op := by
  apply BitVec.eq_of_toNat_eq
  have := op.isLt
  rw [opField_toNat, pack_toNat]; omega

@[simp] theorem rdField_pack (imm rd2 rs2 rs1 rd op) : rdField (pack imm rd2 rs2 rs1 rd op) = rd := by
  ext
  have := op.isLt
  rw [rdField_val, pack_toNat]; omega

@[simp] theorem rs1Field_pack (imm rd2 rs2 rs1 rd op) : rs1Field (pack imm rd2 rs2 rs1 rd op) = rs1 := by
  ext
  have := op.isLt
  rw [rs1Field_val, pack_toNat]; omega

@[simp] theorem rs2Field_pack (imm rd2 rs2 rs1 rd op) : rs2Field (pack imm rd2 rs2 rs1 rd op) = rs2 := by
  ext
  have := op.isLt
  rw [rs2Field_val, pack_toNat]; omega

@[simp] theorem rd2Field_pack (imm rd2 rs2 rs1 rd op) : rd2Field (pack imm rd2 rs2 rs1 rd op) = rd2 := by
  ext
  have := op.isLt
  rw [rd2Field_val, pack_toNat]; omega

@[simp] theorem immField_pack (imm rd2 rs2 rs1 rd op) : immField (pack imm rd2 rs2 rs1 rd op) = imm := by
  apply BitVec.eq_of_toNat_eq
  have := op.isLt
  rw [immField_toNat, pack_toNat]; omega

/-- Every word is packed from its own fields. -/
theorem pack_fields (w : BitVec 32) :
    pack (immField w) (rd2Field w) (rs2Field w) (rs1Field w) (rdField w) (opField w) = w := by
  apply BitVec.eq_of_toNat_eq
  rw [pack_toNat, immField_toNat, rd2Field_val, rs2Field_val, rs1Field_val, rdField_val, opField_toNat]
  omega

/-- An accepted instruction is the one built from the fields, and the unused fields are zero. -/
theorem whenZero_ok {b : Bool} {i j : Instr} (h : whenZero b i = .ok j) : b = true ∧ i = j := by
  unfold whenZero at h
  split at h
  · exact ⟨by assumption, by injection h⟩
  · cases h

/-- The conjunction of two packed words is made field by field. -/
theorem pack_and_pack (imm imm' : BitVec 12) (rd2 rs2 rs1 rd rd2' rs2' rs1' rd' : Reg) (op op' : BitVec 8) :
    pack imm rd2 rs2 rs1 rd op &&& pack imm' rd2' rs2' rs1' rd' op' =
      pack (imm &&& imm') (regOf (regBits rd2 &&& regBits rd2')) (regOf (regBits rs2 &&& regBits rs2'))
        (regOf (regBits rs1 &&& regBits rs1')) (regOf (regBits rd &&& regBits rd')) (op &&& op') := by
  unfold pack
  rw [regBits_regOf, regBits_regOf, regBits_regOf, regBits_regOf]
  exact (BitVec.and_append.trans (by
    rw [BitVec.and_append, BitVec.and_append, BitVec.and_append, BitVec.and_append]))

/-- A mask of ones keeps the opcode. -/
theorem and_ones (op : BitVec 8) : op &&& 0xFF = op := by
  rw [show (0xFF : BitVec 8) = BitVec.allOnes 8 from rfl, BitVec.and_allOnes]

/-- A mask field of ones keeps a register field. -/
@[simp] theorem regOf_and_seven (r : Reg) : regOf (regBits r &&& regBits 7) = r := by
  revert r; decide

/-- A mask field of zeros clears a register field. -/
@[simp] theorem regOf_and_zero (r : Reg) : regOf (regBits r &&& regBits 0) = 0 := by
  revert r; decide

/-- The match value of R38: the opcode, zero-extended. -/
theorem pack_zero_fields (op : BitVec 8) : pack 0 0 0 0 0 op = op.setWidth 32 := by
  apply BitVec.eq_of_toNat_eq
  have := op.isLt
  rw [pack_toNat, BitVec.toNat_setWidth]
  simp
  omega

/-- The mask of format Z leaves the opcode of a word of that format (R38). -/
theorem pack_and_maskZ (op : BitVec 8) :
    pack 0 0 0 0 0 op &&& Format.Z.mask = op.setWidth 32 := by
  rw [show Format.Z.mask = pack 0xFFF 7 7 7 7 0xFF from by decide, pack_and_pack, and_ones, ← pack_zero_fields]
  simp

/-- The mask of format D leaves the opcode of a word of that format (R38). -/
theorem pack_and_maskD (rd : Reg) (op : BitVec 8) :
    pack 0 0 0 0 rd op &&& Format.D.mask = op.setWidth 32 := by
  rw [show Format.D.mask = pack 0xFFF 7 7 7 0 0xFF from by decide, pack_and_pack, and_ones, ← pack_zero_fields]
  simp

/-- The mask of format K leaves the opcode of a word of that format (R38). -/
theorem pack_and_maskK (rd : Reg) (k : BitVec 12) (op : BitVec 8) :
    pack k 0 0 0 rd op &&& Format.K.mask = op.setWidth 32 := by
  rw [show Format.K.mask = pack 0 7 7 7 0 0xFF from by decide, pack_and_pack, and_ones, ← pack_zero_fields]
  simp

/-- The mask of format S leaves the opcode of a word of that format (R38). -/
theorem pack_and_maskS (rs1 : Reg) (op : BitVec 8) :
    pack 0 0 0 rs1 0 op &&& Format.S.mask = op.setWidth 32 := by
  rw [show Format.S.mask = pack 0xFFF 7 7 0 7 0xFF from by decide, pack_and_pack, and_ones, ← pack_zero_fields]
  simp

/-- The mask of format U leaves the opcode of a word of that format (R38). -/
theorem pack_and_maskU (rd rs1 : Reg) (op : BitVec 8) :
    pack 0 0 0 rs1 rd op &&& Format.U.mask = op.setWidth 32 := by
  rw [show Format.U.mask = pack 0xFFF 7 7 0 0 0xFF from by decide, pack_and_pack, and_ones, ← pack_zero_fields]
  simp

/-- The mask of format R leaves the opcode of a word of that format (R38). -/
theorem pack_and_maskR (rd rs1 rs2 : Reg) (op : BitVec 8) :
    pack 0 0 rs2 rs1 rd op &&& Format.R.mask = op.setWidth 32 := by
  rw [show Format.R.mask = pack 0xFFF 7 0 0 0 0xFF from by decide, pack_and_pack, and_ones, ← pack_zero_fields]
  simp

/-- The mask of format I leaves the opcode of a word of that format (R38). -/
theorem pack_and_maskI (rd rs1 : Reg) (imm : BitVec 12) (op : BitVec 8) :
    pack imm 0 0 rs1 rd op &&& Format.I.mask = op.setWidth 32 := by
  rw [show Format.I.mask = pack 0 7 7 0 0 0xFF from by decide, pack_and_pack, and_ones, ← pack_zero_fields]
  simp

/-- The mask of format Q leaves the opcode of a word of that format (R38). -/
theorem pack_and_maskQ (rd rd2 rs1 rs2 : Reg) (op : BitVec 8) :
    pack 0 rd2 rs2 rs1 rd op &&& Format.Q.mask = op.setWidth 32 := by
  rw [show Format.Q.mask = pack 0xFFF 0 0 0 0 0xFF from by decide, pack_and_pack, and_ones, ← pack_zero_fields]
  simp

end Sys2Proof
end

