-- ==== Sys2Proof/Laws/State.lean ====
section
/-! SUPPORT. One lemma per field per update of the state, and the register file's read-after-write laws. -/

namespace Sys2Proof.Machine

@[simp] theorem State.writeV_v (s : State) (r : Reg) (x : Value) : (s.writeV r x).v = s.v.set r.val x := rfl
@[simp] theorem State.writeV_status (s : State) (r : Reg) (x : Value) : (s.writeV r x).status = s.status := rfl
@[simp] theorem State.writeV_fcmd (s : State) (r : Reg) (x : Value) : (s.writeV r x).fcmd = s.fcmd := rfl
@[simp] theorem State.writeV_resetPin (s : State) (r : Reg) (x : Value) : (s.writeV r x).resetPin = s.resetPin := rfl
@[simp] theorem State.writeV_cmd (s : State) (r : Reg) (x : Value) : (s.writeV r x).cmd = s.cmd := rfl
@[simp] theorem State.writeV_din (s : State) (r : Reg) (x : Value) : (s.writeV r x).din = s.din := rfl
@[simp] theorem State.writeV_dout (s : State) (r : Reg) (x : Value) : (s.writeV r x).dout = s.dout := rfl
@[simp] theorem State.writeV_input (s : State) (r : Reg) (x : Value) : (s.writeV r x).input = s.input := rfl
@[simp] theorem State.writeV_faulted (s : State) (r : Reg) (x : Value) : (s.writeV r x).faulted = s.faulted := rfl

@[simp] theorem State.respond_v (s : State) (d : Option Value) : (s.respond d).v = s.v := rfl
@[simp] theorem State.respond_status (s : State) (d : Option Value) : (s.respond d).status = s.status := rfl
@[simp] theorem State.respond_fcmd (s : State) (d : Option Value) : (s.respond d).fcmd = s.fcmd := rfl
@[simp] theorem State.respond_resetPin (s : State) (d : Option Value) : (s.respond d).resetPin = s.resetPin := rfl
@[simp] theorem State.respond_cmd (s : State) (d : Option Value) : (s.respond d).cmd = s.cmd := rfl
@[simp] theorem State.respond_din (s : State) (d : Option Value) : (s.respond d).din = s.din := rfl
@[simp] theorem State.respond_dout (s : State) (d : Option Value) : (s.respond d).dout = d := rfl
@[simp] theorem State.respond_input (s : State) (d : Option Value) : (s.respond d).input = s.input := rfl
@[simp] theorem State.respond_readV (s : State) (d : Option Value) (q : Reg) : (s.respond d).readV q = s.readV q := rfl
@[simp] theorem State.respond_faulted (s : State) (d : Option Value) : (s.respond d).faulted = s.faulted := rfl

@[simp] theorem State.setStatus_v (s : State) (st : BitVec 32) : (s.setStatus st).v = s.v := rfl
@[simp] theorem State.setStatus_status (s : State) (st : BitVec 32) : (s.setStatus st).status = st := rfl
@[simp] theorem State.setStatus_fcmd (s : State) (st : BitVec 32) : (s.setStatus st).fcmd = s.fcmd := rfl
@[simp] theorem State.setStatus_resetPin (s : State) (st : BitVec 32) : (s.setStatus st).resetPin = s.resetPin := rfl
@[simp] theorem State.setStatus_cmd (s : State) (st : BitVec 32) : (s.setStatus st).cmd = s.cmd := rfl
@[simp] theorem State.setStatus_din (s : State) (st : BitVec 32) : (s.setStatus st).din = s.din := rfl
@[simp] theorem State.setStatus_dout (s : State) (st : BitVec 32) : (s.setStatus st).dout = s.dout := rfl
@[simp] theorem State.setStatus_input (s : State) (st : BitVec 32) : (s.setStatus st).input = s.input := rfl
@[simp] theorem State.setStatus_readV (s : State) (st : BitVec 32) (q : Reg) : (s.setStatus st).readV q = s.readV q := rfl

@[simp] theorem State.setFcmd_v (s : State) (w : BitVec 32) : (s.setFcmd w).v = s.v := rfl
@[simp] theorem State.setFcmd_status (s : State) (w : BitVec 32) : (s.setFcmd w).status = s.status := rfl
@[simp] theorem State.setFcmd_fcmd (s : State) (w : BitVec 32) : (s.setFcmd w).fcmd = w := rfl
@[simp] theorem State.setFcmd_resetPin (s : State) (w : BitVec 32) : (s.setFcmd w).resetPin = s.resetPin := rfl
@[simp] theorem State.setFcmd_cmd (s : State) (w : BitVec 32) : (s.setFcmd w).cmd = s.cmd := rfl
@[simp] theorem State.setFcmd_din (s : State) (w : BitVec 32) : (s.setFcmd w).din = s.din := rfl
@[simp] theorem State.setFcmd_dout (s : State) (w : BitVec 32) : (s.setFcmd w).dout = s.dout := rfl
@[simp] theorem State.setFcmd_input (s : State) (w : BitVec 32) : (s.setFcmd w).input = s.input := rfl
@[simp] theorem State.setFcmd_readV (s : State) (w : BitVec 32) (q : Reg) : (s.setFcmd w).readV q = s.readV q := rfl
@[simp] theorem State.setFcmd_faulted (s : State) (w : BitVec 32) : (s.setFcmd w).faulted = s.faulted := rfl

@[simp] theorem State.sample_v (s : State) (w : BitVec 32) (d : Value) : (s.sample w d).v = s.v := rfl
@[simp] theorem State.sample_status (s : State) (w : BitVec 32) (d : Value) : (s.sample w d).status = s.status := rfl
@[simp] theorem State.sample_fcmd (s : State) (w : BitVec 32) (d : Value) : (s.sample w d).fcmd = s.fcmd := rfl
@[simp] theorem State.sample_resetPin (s : State) (w : BitVec 32) (d : Value) : (s.sample w d).resetPin = s.resetPin := rfl
@[simp] theorem State.sample_cmd (s : State) (w : BitVec 32) (d : Value) : (s.sample w d).cmd = w := rfl
@[simp] theorem State.sample_din (s : State) (w : BitVec 32) (d : Value) : (s.sample w d).din = d := rfl
@[simp] theorem State.sample_dout (s : State) (w : BitVec 32) (d : Value) : (s.sample w d).dout = s.dout := rfl
@[simp] theorem State.sample_input (s : State) (w : BitVec 32) (d : Value) : (s.sample w d).input = s.input := rfl
@[simp] theorem State.sample_readV (s : State) (w : BitVec 32) (d : Value) (q : Reg) : (s.sample w d).readV q = s.readV q := rfl
@[simp] theorem State.sample_faulted (s : State) (w : BitVec 32) (d : Value) : (s.sample w d).faulted = s.faulted := rfl

/-- A register read back after a write gives the value written (R14). -/
@[simp] theorem State.readV_writeV_same (s : State) (r : Reg) (x : Value) : (s.writeV r x).readV r = x := by
  simp [State.readV]

/-- A write leaves every other register alone (R21). -/
theorem State.readV_writeV_other (s : State) {r q : Reg} (x : Value) (h : q ≠ r) :
    (s.writeV r x).readV q = s.readV q := by
  have h' : r.val ≠ q.val := fun e => h (Fin.ext e.symm)
  simp [State.readV, Vector.getElem_set_ne, h']

/-- A register after a write, whichever it is. -/
theorem State.readV_writeV (s : State) (r q : Reg) (x : Value) :
    (s.writeV r x).readV q = if q = r then x else s.readV q := by
  by_cases h : q = r
  · rw [if_pos h, h, State.readV_writeV_same]
  · rw [if_neg h, State.readV_writeV_other s x h]

/-- The fields of the state after RESET (R154). -/
@[simp] theorem resetCore_v (s : State) : (resetCore s).v = resetRegisters := rfl
@[simp] theorem resetCore_status (s : State) : (resetCore s).status = 0 := rfl
@[simp] theorem resetCore_fcmd (s : State) : (resetCore s).fcmd = 0 := rfl
@[simp] theorem resetCore_resetPin (s : State) : (resetCore s).resetPin = s.resetPin := rfl
@[simp] theorem resetCore_cmd (s : State) : (resetCore s).cmd = s.cmd := rfl
@[simp] theorem resetCore_din (s : State) : (resetCore s).din = s.din := rfl
@[simp] theorem resetCore_dout (s : State) : (resetCore s).dout = none := rfl
@[simp] theorem resetCore_input (s : State) : (resetCore s).input = s.input := rfl

end Sys2Proof.Machine
end

