-- ==== Sys2Proof/Laws/Fetch.lean ====
section
/-! SUPPORT. What a step takes from the host, said once: the cases of `nextWork` and of a transaction. -/

namespace Sys2Proof.Machine

/-- A transaction is dropped while RESET is asserted, runs the decoded instruction, or is an illegal command. -/
theorem transaction_cases (w : BitVec 32) (d : Value) (s : State) :
    (s.resetPin = true ∧ transaction w d s = .settled (.next (s.respond none))) ∨
      (s.resetPin = false ∧ ∃ i, decode w = .ok i ∧ transaction w d s = .run i (s.sample w d)) ∨
      (s.resetPin = false ∧ ∃ e, decode w = .error e ∧
        transaction w d s = .settled (illegalCommand (s.sample w d))) := by
  unfold transaction
  cases hp : s.resetPin with
  | true => exact .inl ⟨rfl, rfl⟩
  | false =>
    cases hd : decode w with
    | ok i => exact .inr (.inl ⟨rfl, i, rfl, rfl⟩)
    | error e => exact .inr (.inr ⟨rfl, e, rfl, rfl⟩)

/-- The work of a step by the oldest host action. -/
theorem nextWork_cases (s : State) :
    (s.input = [] ∧ nextWork s = .settled (.next (s.respond none))) ∨
      (∃ w d rest, s.input = .command w d :: rest ∧ nextWork s = transaction w d { s with input := rest }) ∨
      (∃ rest, s.input = .assertReset :: rest ∧
        nextWork s = .settled (.next (assertResetPin { s with input := rest }))) ∨
      (∃ rest, s.input = .releaseReset :: rest ∧
        nextWork s = .settled (.next (releaseResetPin { s with input := rest }))) := by
  rcases s with ⟨v, st, fc, rp, c, di, dout, inp⟩
  cases inp with
  | nil => exact .inl ⟨rfl, rfl⟩
  | cons e rest =>
    cases e with
    | command w d => exact .inr (.inl ⟨w, d, rest, rfl, rfl⟩)
    | assertReset => exact .inr (.inr (.inl ⟨rest, rfl, rfl⟩))
    | releaseReset => exact .inr (.inr (.inr ⟨rest, rfl, rfl⟩))

/-- A step with settled work is that work's outcome. -/
theorem step_of_settled {s : State} {o : Host.Outcome State Fault Refusal} (h : nextWork s = .settled o) :
    step s = o := by
  unfold step; rw [h]

/-- A step with an instruction to run is its meaning. -/
theorem step_of_run {s s' : State} {i : Instr} (h : nextWork s = .run i s') : step s = exec i s' := by
  unfold step; rw [h]

end Sys2Proof.Machine
end

