-- ==== Sys2Proof/Laws/Status.lean ====
section
/-! SUPPORT. The fields of STATUS after its two updates (spec 10_state.md R24). -/

namespace Sys2Proof.Machine

theorem statusCause_toNat (st : BitVec 32) : (statusCause st).toNat = st.toNat / 2 % 2 ^ 3 := by
  simp [statusCause, BitVec.extractLsb'_toNat, Nat.shiftRight_eq_div_pow]

theorem statusDpath_toNat (st : BitVec 32) : (statusDpath st).toNat = st.toNat / 2 ^ 4 % 2 ^ 4 := by
  simp [statusDpath, BitVec.extractLsb'_toNat, Nat.shiftRight_eq_div_pow]

theorem statusReserved_toNat (st : BitVec 32) : (statusReserved st).toNat = st.toNat / 2 ^ 8 := by
  have := st.isLt
  simp [statusReserved, BitVec.extractLsb'_toNat, Nat.shiftRight_eq_div_pow]
  omega

theorem statusFault_eq (st : BitVec 32) : statusFault st = decide (st.toNat % 2 = 1) := by
  simp [statusFault, BitVec.getLsbD, Nat.testBit, Nat.one_and_eq_mod_two]
  rcases Nat.mod_two_eq_zero_or_one st.toNat with h | h <;> simp [h]

/-- STATUS after fault entry, as a number. -/
theorem statusWithFault_toNat (c : BitVec 3) (st : BitVec 32) :
    (statusWithFault c st).toNat =
      (((statusReserved st).toNat * 2 ^ 4 + (statusDpath st).toNat) * 2 ^ 3 + c.toNat) * 2 + 1 := by
  unfold statusWithFault
  rw [toNat_append_eq, toNat_append_eq, toNat_append_eq]
  rfl

/-- STATUS after a completed division, as a number. -/
theorem statusWithDpath_toNat (p : BitVec 4) (st : BitVec 32) :
    (statusWithDpath p st).toNat =
      ((statusReserved st).toNat * 2 ^ 4 + p.toNat) * 2 ^ 4 + st.toNat % 2 ^ 4 := by
  unfold statusWithDpath
  rw [toNat_append_eq, toNat_append_eq]
  simp [BitVec.extractLsb'_toNat]

/-! Fault entry writes FAULT and CAUSE and keeps the rest (R146). -/

@[simp] theorem statusFault_withFault (c : BitVec 3) (st : BitVec 32) : statusFault (statusWithFault c st) = true := by
  rw [statusFault_eq, statusWithFault_toNat]
  simp

@[simp] theorem statusCause_withFault (c : BitVec 3) (st : BitVec 32) : statusCause (statusWithFault c st) = c := by
  apply BitVec.eq_of_toNat_eq
  have := c.isLt
  rw [statusCause_toNat, statusWithFault_toNat]; omega

@[simp] theorem statusDpath_withFault (c : BitVec 3) (st : BitVec 32) :
    statusDpath (statusWithFault c st) = statusDpath st := by
  apply BitVec.eq_of_toNat_eq
  have := c.isLt
  have := (statusDpath st).isLt
  rw [statusDpath_toNat, statusWithFault_toNat]; omega

@[simp] theorem statusReserved_withFault (c : BitVec 3) (st : BitVec 32) :
    statusReserved (statusWithFault c st) = statusReserved st := by
  apply BitVec.eq_of_toNat_eq
  have := c.isLt
  have := (statusDpath st).isLt
  rw [statusReserved_toNat, statusWithFault_toNat]; omega

/-! A completed division writes DPATH and keeps the rest (R24). -/

@[simp] theorem statusFault_withDpath (p : BitVec 4) (st : BitVec 32) :
    statusFault (statusWithDpath p st) = statusFault st := by
  have := p.isLt
  rw [statusFault_eq, statusFault_eq, statusWithDpath_toNat]
  congr 1
  simp only [eq_iff_iff]
  omega

@[simp] theorem statusCause_withDpath (p : BitVec 4) (st : BitVec 32) :
    statusCause (statusWithDpath p st) = statusCause st := by
  apply BitVec.eq_of_toNat_eq
  rw [statusCause_toNat, statusCause_toNat, statusWithDpath_toNat]; omega

@[simp] theorem statusDpath_withDpath (p : BitVec 4) (st : BitVec 32) :
    statusDpath (statusWithDpath p st) = p := by
  apply BitVec.eq_of_toNat_eq
  have := p.isLt
  rw [statusDpath_toNat, statusWithDpath_toNat]; omega

@[simp] theorem statusReserved_withDpath (p : BitVec 4) (st : BitVec 32) :
    statusReserved (statusWithDpath p st) = statusReserved st := by
  apply BitVec.eq_of_toNat_eq
  have := p.isLt
  rw [statusReserved_toNat, statusWithDpath_toNat]; omega

end Sys2Proof.Machine
end

