-- ==== Sys2Proof/Laws/Ops.lean ====
section
/-! SUPPORT. What the shared operations can do, said once. -/

namespace Sys2Proof.Machine

/-! `unlessFaulted`: the shape of a command (R147). -/

theorem unlessFaulted_of_running (e : State → State) {s : State} (h : s.faulted = false) :
    unlessFaulted e s = .next (e s) := by
  simp [unlessFaulted, h]

theorem unlessFaulted_of_faulted (e : State → State) {s : State} (h : s.faulted = true) :
    unlessFaulted e s = .next (s.respond none) := by
  simp [unlessFaulted, h]

theorem unlessFaulted_cases {e : State → State} {s t : State} (h : unlessFaulted e s = .next t) :
    (s.faulted = true ∧ t = s.respond none) ∨ (s.faulted = false ∧ t = e s) := by
  cases hf : s.faulted with
  | true => rw [unlessFaulted_of_faulted e hf] at h; cases h; exact .inl ⟨rfl, rfl⟩
  | false => rw [unlessFaulted_of_running e hf] at h; cases h; exact .inr ⟨rfl, rfl⟩

/-! The command shapes outside the fault state. -/

theorem unary_of_running (f : Value → Value) (rd rs1 : Reg) {s : State} (h : s.faulted = false) :
    unary f rd rs1 s = .next (finish rd (f (s.readV rs1)) s) := unlessFaulted_of_running _ h

theorem binary_of_running (f : Value → Value → Value) (rd rs1 rs2 : Reg) {s : State} (h : s.faulted = false) :
    binary f rd rs1 rs2 s = .next (finish rd (f (s.readV rs1) (s.readV rs2)) s) := unlessFaulted_of_running _ h

theorem binarySext_of_running (f : Value → Value → Value) (rd rs1 rs2 : Reg) {s : State} (h : s.faulted = false) :
    binarySext f rd rs1 rs2 s = .next (finish rd (f (s.readV rs1) (sext128 (s.readV rs2).lo)) s) :=
  unlessFaulted_of_running _ h

theorem counted_of_running (f : Value → Nat → Value) (rd rs1 rs2 : Reg) {s : State} (h : s.faulted = false) :
    counted f rd rs1 rs2 s = .next (finish rd (f (s.readV rs1) (s.readV rs2).uval) s) :=
  unlessFaulted_of_running _ h

theorem countedImm_of_running (f : Value → Nat → Value) (rd rs1 : Reg) (imm : BitVec 12) {s : State}
    (h : s.faulted = false) :
    countedImm f rd rs1 imm s = .next (finish rd (f (s.readV rs1) imm.toNat) s) := unlessFaulted_of_running _ h

/-! `finish`: one destination, an empty response. -/

@[simp] theorem finish_v (rd : Reg) (x : Value) (s : State) : (finish rd x s).v = s.v.set rd.val x := rfl
@[simp] theorem finish_status (rd : Reg) (x : Value) (s : State) : (finish rd x s).status = s.status := rfl
@[simp] theorem finish_fcmd (rd : Reg) (x : Value) (s : State) : (finish rd x s).fcmd = s.fcmd := rfl
@[simp] theorem finish_resetPin (rd : Reg) (x : Value) (s : State) : (finish rd x s).resetPin = s.resetPin := rfl
@[simp] theorem finish_cmd (rd : Reg) (x : Value) (s : State) : (finish rd x s).cmd = s.cmd := rfl
@[simp] theorem finish_din (rd : Reg) (x : Value) (s : State) : (finish rd x s).din = s.din := rfl
@[simp] theorem finish_dout (rd : Reg) (x : Value) (s : State) : (finish rd x s).dout = none := rfl
@[simp] theorem finish_input (rd : Reg) (x : Value) (s : State) : (finish rd x s).input = s.input := rfl

theorem finish_readV (rd q : Reg) (x : Value) (s : State) :
    (finish rd x s).readV q = if q = rd then x else s.readV q := s.readV_writeV rd q x

/-! `finishBoth`: two destinations, an empty response. -/

@[simp] theorem finishBoth_status (rd rd2 : Reg) (q r : Value) (s : State) :
    (finishBoth rd rd2 q r s).status = s.status := rfl
@[simp] theorem finishBoth_fcmd (rd rd2 : Reg) (q r : Value) (s : State) :
    (finishBoth rd rd2 q r s).fcmd = s.fcmd := rfl
@[simp] theorem finishBoth_resetPin (rd rd2 : Reg) (q r : Value) (s : State) :
    (finishBoth rd rd2 q r s).resetPin = s.resetPin := rfl
@[simp] theorem finishBoth_cmd (rd rd2 : Reg) (q r : Value) (s : State) :
    (finishBoth rd rd2 q r s).cmd = s.cmd := rfl
@[simp] theorem finishBoth_din (rd rd2 : Reg) (q r : Value) (s : State) :
    (finishBoth rd rd2 q r s).din = s.din := rfl
@[simp] theorem finishBoth_dout (rd rd2 : Reg) (q r : Value) (s : State) :
    (finishBoth rd rd2 q r s).dout = none := rfl
@[simp] theorem finishBoth_input (rd rd2 : Reg) (q r : Value) (s : State) :
    (finishBoth rd rd2 q r s).input = s.input := rfl

theorem finishBoth_readV (rd rd2 p : Reg) (q r : Value) (s : State) :
    (finishBoth rd rd2 q r s).readV p = if p = rd2 then r else if p = rd then q else s.readV p := by
  unfold finishBoth
  rw [State.respond_readV, State.readV_writeV, State.readV_writeV]

/-! `raiseFault`: fault entry (R146). -/

@[simp] theorem raiseFault_v (c : FaultCause) (s : State) : (raiseFault c s).v = s.v := rfl
@[simp] theorem raiseFault_readV (c : FaultCause) (s : State) (q : Reg) : (raiseFault c s).readV q = s.readV q := rfl
@[simp] theorem raiseFault_status (c : FaultCause) (s : State) :
    (raiseFault c s).status = statusWithFault (causeCode c) s.status := rfl
@[simp] theorem raiseFault_fcmd (c : FaultCause) (s : State) : (raiseFault c s).fcmd = s.cmd := rfl
@[simp] theorem raiseFault_resetPin (c : FaultCause) (s : State) : (raiseFault c s).resetPin = s.resetPin := rfl
@[simp] theorem raiseFault_cmd (c : FaultCause) (s : State) : (raiseFault c s).cmd = s.cmd := rfl
@[simp] theorem raiseFault_din (c : FaultCause) (s : State) : (raiseFault c s).din = s.din := rfl
@[simp] theorem raiseFault_dout (c : FaultCause) (s : State) : (raiseFault c s).dout = none := rfl
@[simp] theorem raiseFault_input (c : FaultCause) (s : State) : (raiseFault c s).input = s.input := rfl

/-- After fault entry CORE is in the fault state, with the cause's code (R146, R147). -/
@[simp] theorem raiseFault_faulted (c : FaultCause) (s : State) : (raiseFault c s).faulted = true :=
  statusFault_withFault _ _

/-! `setDpath` and the two division shapes (R99, R111, R113). -/

@[simp] theorem setDpath_v (p : DivPath) (s : State) : (setDpath p s).v = s.v := rfl
@[simp] theorem setDpath_readV (p : DivPath) (s : State) (q : Reg) : (setDpath p s).readV q = s.readV q := rfl
@[simp] theorem setDpath_status (p : DivPath) (s : State) :
    (setDpath p s).status = statusWithDpath (pathCode p) s.status := rfl
@[simp] theorem setDpath_fcmd (p : DivPath) (s : State) : (setDpath p s).fcmd = s.fcmd := rfl
@[simp] theorem setDpath_resetPin (p : DivPath) (s : State) : (setDpath p s).resetPin = s.resetPin := rfl
@[simp] theorem setDpath_cmd (p : DivPath) (s : State) : (setDpath p s).cmd = s.cmd := rfl
@[simp] theorem setDpath_din (p : DivPath) (s : State) : (setDpath p s).din = s.din := rfl
@[simp] theorem setDpath_dout (p : DivPath) (s : State) : (setDpath p s).dout = s.dout := rfl
@[simp] theorem setDpath_input (p : DivPath) (s : State) : (setDpath p s).input = s.input := rfl

/-- A division either raises DivideByZero or writes its destinations and DPATH. -/
theorem finishDivision_cases (d : Option DivResult) (w : DivResult → State → State) (s : State) :
    (d = none ∧ finishDivision d w s = raiseFault .divideByZero s) ∨
      (∃ r, d = some r ∧ finishDivision d w s = setDpath r.path (w r s)) := by
  cases d with
  | none => exact .inl ⟨rfl, rfl⟩
  | some r => exact .inr ⟨r, rfl, rfl⟩

/-- A combined divide raises IllegalCommand, raises DivideByZero, or writes both destinations and DPATH. -/
theorem combinedDivision_cases (rd rd2 : Reg) (engine : State → Option DivResult) (s : State) :
    (rd = rd2 ∧ combinedDivision rd rd2 engine s = raiseFault .illegalCommand s) ∨
      (rd ≠ rd2 ∧ engine s = none ∧ combinedDivision rd rd2 engine s = raiseFault .divideByZero s) ∨
      (rd ≠ rd2 ∧ ∃ r, engine s = some r ∧
        combinedDivision rd rd2 engine s = setDpath r.path (finishBoth rd rd2 r.q r.r s)) := by
  unfold combinedDivision
  by_cases h : rd = rd2
  · exact .inl ⟨h, if_pos h⟩
  · rw [if_neg h]
    rcases finishDivision_cases (engine s) (fun d => finishBoth rd rd2 d.q d.r) s with ⟨hn, he⟩ | ⟨r, hs, he⟩
    · exact .inr (.inl ⟨h, hn, he⟩)
    · exact .inr (.inr ⟨h, r, hs, he⟩)

/-- The unsigned engine answers nothing exactly for a zero divisor (R99). -/
theorem udivmod_eq_none_iff (a b : Value) : udivmod a b = none ↔ b = zero := by
  unfold udivmod
  split <;> simp_all

theorem udivmod_of_ne (a : Value) {b : Value} (h : b ≠ zero) :
    udivmod a b = some ⟨u128 (a.uval / b.uval : Nat), u128 (a.uval % b.uval : Nat), selectPath a b⟩ := by
  simp [udivmod, h]

/-- Every branch of the policy has a code of 1 to 8 (R25). -/
theorem pathCode_range (p : DivPath) : 1 ≤ (pathCode p).toNat ∧ (pathCode p).toNat ≤ 8 := by
  cases p <;> decide

end Sys2Proof.Machine
end

