-- ==== Sys2Proof/Laws/PerInstr.lean ====
section
/-! SUPPORT. A law of the syntax proved one instruction at a time: the word `encode` gives an instruction has, under
the mask of the instruction's format, exactly its opcode (spec 30_encoding.md R38). -/

namespace Sys2Proof.Laws.EncodeMatches

/-- The word of `i` matches some row of the opcode map under the mask of the row's format (R38). -/
def Statement (i : Instr) : Prop :=
  ∃ op f, (op, f) ∈ opcodeMap ∧ encode i &&& f.mask = op.setWidth 32

end Sys2Proof.Laws.EncodeMatches

theorem Sys2Proof.Laws.EncodeMatches.setc (rd : Sys2Proof.Reg) :
    Sys2Proof.Laws.EncodeMatches.Statement (Sys2Proof.Instr.setc rd) :=
  ⟨0x01, .D, by decide, Sys2Proof.pack_and_maskD rd 0x01⟩

theorem Sys2Proof.Laws.EncodeMatches.setu (rd : Sys2Proof.Reg) :
    Sys2Proof.Laws.EncodeMatches.Statement (Sys2Proof.Instr.setu rd) :=
  ⟨0x02, .D, by decide, Sys2Proof.pack_and_maskD rd 0x02⟩

theorem Sys2Proof.Laws.EncodeMatches.sets (rd : Sys2Proof.Reg) :
    Sys2Proof.Laws.EncodeMatches.Statement (Sys2Proof.Instr.sets rd) :=
  ⟨0x03, .D, by decide, Sys2Proof.pack_and_maskD rd 0x03⟩

theorem Sys2Proof.Laws.EncodeMatches.ldk (rd : Sys2Proof.Reg) (k : BitVec 12) :
    Sys2Proof.Laws.EncodeMatches.Statement (Sys2Proof.Instr.ldk rd k) :=
  ⟨0x04, .K, by decide, Sys2Proof.pack_and_maskK rd k 0x04⟩

theorem Sys2Proof.Laws.EncodeMatches.mov (rd rs1 : Sys2Proof.Reg) :
    Sys2Proof.Laws.EncodeMatches.Statement (Sys2Proof.Instr.mov rd rs1) :=
  ⟨0x05, .U, by decide, Sys2Proof.pack_and_maskU rd rs1 0x05⟩

theorem Sys2Proof.Laws.EncodeMatches.getc (rs1 : Sys2Proof.Reg) :
    Sys2Proof.Laws.EncodeMatches.Statement (Sys2Proof.Instr.getc rs1) :=
  ⟨0x06, .S, by decide, Sys2Proof.pack_and_maskS rs1 0x06⟩

theorem Sys2Proof.Laws.EncodeMatches.getlo (rs1 : Sys2Proof.Reg) :
    Sys2Proof.Laws.EncodeMatches.Statement (Sys2Proof.Instr.getlo rs1) :=
  ⟨0x07, .S, by decide, Sys2Proof.pack_and_maskS rs1 0x07⟩

theorem Sys2Proof.Laws.EncodeMatches.rdst :
    Sys2Proof.Laws.EncodeMatches.Statement Sys2Proof.Instr.rdst :=
  ⟨0x08, .Z, by decide, Sys2Proof.pack_and_maskZ 0x08⟩

theorem Sys2Proof.Laws.EncodeMatches.fitu64 (rd rs1 : Sys2Proof.Reg) :
    Sys2Proof.Laws.EncodeMatches.Statement (Sys2Proof.Instr.fitu64 rd rs1) :=
  ⟨0x09, .U, by decide, Sys2Proof.pack_and_maskU rd rs1 0x09⟩

theorem Sys2Proof.Laws.EncodeMatches.fits64 (rd rs1 : Sys2Proof.Reg) :
    Sys2Proof.Laws.EncodeMatches.Statement (Sys2Proof.Instr.fits64 rd rs1) :=
  ⟨0x0A, .U, by decide, Sys2Proof.pack_and_maskU rd rs1 0x0A⟩

theorem Sys2Proof.Laws.EncodeMatches.add (rd rs1 rs2 : Sys2Proof.Reg) :
    Sys2Proof.Laws.EncodeMatches.Statement (Sys2Proof.Instr.add rd rs1 rs2) :=
  ⟨0x10, .R, by decide, Sys2Proof.pack_and_maskR rd rs1 rs2 0x10⟩

theorem Sys2Proof.Laws.EncodeMatches.sub (rd rs1 rs2 : Sys2Proof.Reg) :
    Sys2Proof.Laws.EncodeMatches.Statement (Sys2Proof.Instr.sub rd rs1 rs2) :=
  ⟨0x11, .R, by decide, Sys2Proof.pack_and_maskR rd rs1 rs2 0x11⟩

theorem Sys2Proof.Laws.EncodeMatches.mul (rd rs1 rs2 : Sys2Proof.Reg) :
    Sys2Proof.Laws.EncodeMatches.Statement (Sys2Proof.Instr.mul rd rs1 rs2) :=
  ⟨0x12, .R, by decide, Sys2Proof.pack_and_maskR rd rs1 rs2 0x12⟩

theorem Sys2Proof.Laws.EncodeMatches.mulw (rd rs1 rs2 : Sys2Proof.Reg) :
    Sys2Proof.Laws.EncodeMatches.Statement (Sys2Proof.Instr.mulw rd rs1 rs2) :=
  ⟨0x13, .R, by decide, Sys2Proof.pack_and_maskR rd rs1 rs2 0x13⟩

theorem Sys2Proof.Laws.EncodeMatches.inc (rd rs1 : Sys2Proof.Reg) :
    Sys2Proof.Laws.EncodeMatches.Statement (Sys2Proof.Instr.inc rd rs1) :=
  ⟨0x14, .U, by decide, Sys2Proof.pack_and_maskU rd rs1 0x14⟩

theorem Sys2Proof.Laws.EncodeMatches.dec (rd rs1 : Sys2Proof.Reg) :
    Sys2Proof.Laws.EncodeMatches.Statement (Sys2Proof.Instr.dec rd rs1) :=
  ⟨0x15, .U, by decide, Sys2Proof.pack_and_maskU rd rs1 0x15⟩

theorem Sys2Proof.Laws.EncodeMatches.ucmp (rd rs1 rs2 : Sys2Proof.Reg) :
    Sys2Proof.Laws.EncodeMatches.Statement (Sys2Proof.Instr.ucmp rd rs1 rs2) :=
  ⟨0x20, .R, by decide, Sys2Proof.pack_and_maskR rd rs1 rs2 0x20⟩

theorem Sys2Proof.Laws.EncodeMatches.eq (rd rs1 rs2 : Sys2Proof.Reg) :
    Sys2Proof.Laws.EncodeMatches.Statement (Sys2Proof.Instr.eq rd rs1 rs2) :=
  ⟨0x21, .R, by decide, Sys2Proof.pack_and_maskR rd rs1 rs2 0x21⟩

theorem Sys2Proof.Laws.EncodeMatches.ult (rd rs1 rs2 : Sys2Proof.Reg) :
    Sys2Proof.Laws.EncodeMatches.Statement (Sys2Proof.Instr.ult rd rs1 rs2) :=
  ⟨0x22, .R, by decide, Sys2Proof.pack_and_maskR rd rs1 rs2 0x22⟩

theorem Sys2Proof.Laws.EncodeMatches.ule (rd rs1 rs2 : Sys2Proof.Reg) :
    Sys2Proof.Laws.EncodeMatches.Statement (Sys2Proof.Instr.ule rd rs1 rs2) :=
  ⟨0x23, .R, by decide, Sys2Proof.pack_and_maskR rd rs1 rs2 0x23⟩

theorem Sys2Proof.Laws.EncodeMatches.ugt (rd rs1 rs2 : Sys2Proof.Reg) :
    Sys2Proof.Laws.EncodeMatches.Statement (Sys2Proof.Instr.ugt rd rs1 rs2) :=
  ⟨0x24, .R, by decide, Sys2Proof.pack_and_maskR rd rs1 rs2 0x24⟩

theorem Sys2Proof.Laws.EncodeMatches.uge (rd rs1 rs2 : Sys2Proof.Reg) :
    Sys2Proof.Laws.EncodeMatches.Statement (Sys2Proof.Instr.uge rd rs1 rs2) :=
  ⟨0x25, .R, by decide, Sys2Proof.pack_and_maskR rd rs1 rs2 0x25⟩

theorem Sys2Proof.Laws.EncodeMatches.scmp (rd rs1 rs2 : Sys2Proof.Reg) :
    Sys2Proof.Laws.EncodeMatches.Statement (Sys2Proof.Instr.scmp rd rs1 rs2) :=
  ⟨0x30, .R, by decide, Sys2Proof.pack_and_maskR rd rs1 rs2 0x30⟩

theorem Sys2Proof.Laws.EncodeMatches.slt (rd rs1 rs2 : Sys2Proof.Reg) :
    Sys2Proof.Laws.EncodeMatches.Statement (Sys2Proof.Instr.slt rd rs1 rs2) :=
  ⟨0x32, .R, by decide, Sys2Proof.pack_and_maskR rd rs1 rs2 0x32⟩

theorem Sys2Proof.Laws.EncodeMatches.sle (rd rs1 rs2 : Sys2Proof.Reg) :
    Sys2Proof.Laws.EncodeMatches.Statement (Sys2Proof.Instr.sle rd rs1 rs2) :=
  ⟨0x33, .R, by decide, Sys2Proof.pack_and_maskR rd rs1 rs2 0x33⟩

theorem Sys2Proof.Laws.EncodeMatches.sgt (rd rs1 rs2 : Sys2Proof.Reg) :
    Sys2Proof.Laws.EncodeMatches.Statement (Sys2Proof.Instr.sgt rd rs1 rs2) :=
  ⟨0x34, .R, by decide, Sys2Proof.pack_and_maskR rd rs1 rs2 0x34⟩

theorem Sys2Proof.Laws.EncodeMatches.sge (rd rs1 rs2 : Sys2Proof.Reg) :
    Sys2Proof.Laws.EncodeMatches.Statement (Sys2Proof.Instr.sge rd rs1 rs2) :=
  ⟨0x35, .R, by decide, Sys2Proof.pack_and_maskR rd rs1 rs2 0x35⟩

theorem Sys2Proof.Laws.EncodeMatches.not (rd rs1 : Sys2Proof.Reg) :
    Sys2Proof.Laws.EncodeMatches.Statement (Sys2Proof.Instr.not rd rs1) :=
  ⟨0x40, .U, by decide, Sys2Proof.pack_and_maskU rd rs1 0x40⟩

theorem Sys2Proof.Laws.EncodeMatches.and (rd rs1 rs2 : Sys2Proof.Reg) :
    Sys2Proof.Laws.EncodeMatches.Statement (Sys2Proof.Instr.and rd rs1 rs2) :=
  ⟨0x41, .R, by decide, Sys2Proof.pack_and_maskR rd rs1 rs2 0x41⟩

theorem Sys2Proof.Laws.EncodeMatches.or (rd rs1 rs2 : Sys2Proof.Reg) :
    Sys2Proof.Laws.EncodeMatches.Statement (Sys2Proof.Instr.or rd rs1 rs2) :=
  ⟨0x42, .R, by decide, Sys2Proof.pack_and_maskR rd rs1 rs2 0x42⟩

theorem Sys2Proof.Laws.EncodeMatches.xor (rd rs1 rs2 : Sys2Proof.Reg) :
    Sys2Proof.Laws.EncodeMatches.Statement (Sys2Proof.Instr.xor rd rs1 rs2) :=
  ⟨0x43, .R, by decide, Sys2Proof.pack_and_maskR rd rs1 rs2 0x43⟩

theorem Sys2Proof.Laws.EncodeMatches.shl (rd rs1 rs2 : Sys2Proof.Reg) :
    Sys2Proof.Laws.EncodeMatches.Statement (Sys2Proof.Instr.shl rd rs1 rs2) :=
  ⟨0x48, .R, by decide, Sys2Proof.pack_and_maskR rd rs1 rs2 0x48⟩

theorem Sys2Proof.Laws.EncodeMatches.shr (rd rs1 rs2 : Sys2Proof.Reg) :
    Sys2Proof.Laws.EncodeMatches.Statement (Sys2Proof.Instr.shr rd rs1 rs2) :=
  ⟨0x49, .R, by decide, Sys2Proof.pack_and_maskR rd rs1 rs2 0x49⟩

theorem Sys2Proof.Laws.EncodeMatches.shli (rd rs1 : Sys2Proof.Reg) (imm : BitVec 12) :
    Sys2Proof.Laws.EncodeMatches.Statement (Sys2Proof.Instr.shli rd rs1 imm) :=
  ⟨0x4A, .I, by decide, Sys2Proof.pack_and_maskI rd rs1 imm 0x4A⟩

theorem Sys2Proof.Laws.EncodeMatches.shri (rd rs1 : Sys2Proof.Reg) (imm : BitVec 12) :
    Sys2Proof.Laws.EncodeMatches.Statement (Sys2Proof.Instr.shri rd rs1 imm) :=
  ⟨0x4B, .I, by decide, Sys2Proof.pack_and_maskI rd rs1 imm 0x4B⟩

theorem Sys2Proof.Laws.EncodeMatches.lzcnt (rd rs1 : Sys2Proof.Reg) :
    Sys2Proof.Laws.EncodeMatches.Statement (Sys2Proof.Instr.lzcnt rd rs1) :=
  ⟨0x50, .U, by decide, Sys2Proof.pack_and_maskU rd rs1 0x50⟩

theorem Sys2Proof.Laws.EncodeMatches.tzcnt (rd rs1 : Sys2Proof.Reg) :
    Sys2Proof.Laws.EncodeMatches.Statement (Sys2Proof.Instr.tzcnt rd rs1) :=
  ⟨0x51, .U, by decide, Sys2Proof.pack_and_maskU rd rs1 0x51⟩

theorem Sys2Proof.Laws.EncodeMatches.popcnt (rd rs1 : Sys2Proof.Reg) :
    Sys2Proof.Laws.EncodeMatches.Statement (Sys2Proof.Instr.popcnt rd rs1) :=
  ⟨0x52, .U, by decide, Sys2Proof.pack_and_maskU rd rs1 0x52⟩

theorem Sys2Proof.Laws.EncodeMatches.bitlen (rd rs1 : Sys2Proof.Reg) :
    Sys2Proof.Laws.EncodeMatches.Statement (Sys2Proof.Instr.bitlen rd rs1) :=
  ⟨0x53, .U, by decide, Sys2Proof.pack_and_maskU rd rs1 0x53⟩

theorem Sys2Proof.Laws.EncodeMatches.bit (rd rs1 rs2 : Sys2Proof.Reg) :
    Sys2Proof.Laws.EncodeMatches.Statement (Sys2Proof.Instr.bit rd rs1 rs2) :=
  ⟨0x54, .R, by decide, Sys2Proof.pack_and_maskR rd rs1 rs2 0x54⟩

theorem Sys2Proof.Laws.EncodeMatches.biti (rd rs1 : Sys2Proof.Reg) (imm : BitVec 12) :
    Sys2Proof.Laws.EncodeMatches.Statement (Sys2Proof.Instr.biti rd rs1 imm) :=
  ⟨0x55, .I, by decide, Sys2Proof.pack_and_maskI rd rs1 imm 0x55⟩

theorem Sys2Proof.Laws.EncodeMatches.bset (rd rs1 rs2 : Sys2Proof.Reg) :
    Sys2Proof.Laws.EncodeMatches.Statement (Sys2Proof.Instr.bset rd rs1 rs2) :=
  ⟨0x56, .R, by decide, Sys2Proof.pack_and_maskR rd rs1 rs2 0x56⟩

theorem Sys2Proof.Laws.EncodeMatches.bclr (rd rs1 rs2 : Sys2Proof.Reg) :
    Sys2Proof.Laws.EncodeMatches.Statement (Sys2Proof.Instr.bclr rd rs1 rs2) :=
  ⟨0x57, .R, by decide, Sys2Proof.pack_and_maskR rd rs1 rs2 0x57⟩

theorem Sys2Proof.Laws.EncodeMatches.bseti (rd rs1 : Sys2Proof.Reg) (imm : BitVec 12) :
    Sys2Proof.Laws.EncodeMatches.Statement (Sys2Proof.Instr.bseti rd rs1 imm) :=
  ⟨0x58, .I, by decide, Sys2Proof.pack_and_maskI rd rs1 imm 0x58⟩

theorem Sys2Proof.Laws.EncodeMatches.bclri (rd rs1 : Sys2Proof.Reg) (imm : BitVec 12) :
    Sys2Proof.Laws.EncodeMatches.Statement (Sys2Proof.Instr.bclri rd rs1 imm) :=
  ⟨0x59, .I, by decide, Sys2Proof.pack_and_maskI rd rs1 imm 0x59⟩

theorem Sys2Proof.Laws.EncodeMatches.udiv (rd rs1 rs2 : Sys2Proof.Reg) :
    Sys2Proof.Laws.EncodeMatches.Statement (Sys2Proof.Instr.udiv rd rs1 rs2) :=
  ⟨0x60, .R, by decide, Sys2Proof.pack_and_maskR rd rs1 rs2 0x60⟩

theorem Sys2Proof.Laws.EncodeMatches.umod (rd rs1 rs2 : Sys2Proof.Reg) :
    Sys2Proof.Laws.EncodeMatches.Statement (Sys2Proof.Instr.umod rd rs1 rs2) :=
  ⟨0x61, .R, by decide, Sys2Proof.pack_and_maskR rd rs1 rs2 0x61⟩

theorem Sys2Proof.Laws.EncodeMatches.udivmod (rd rd2 rs1 rs2 : Sys2Proof.Reg) :
    Sys2Proof.Laws.EncodeMatches.Statement (Sys2Proof.Instr.udivmod rd rd2 rs1 rs2) :=
  ⟨0x62, .Q, by decide, Sys2Proof.pack_and_maskQ rd rd2 rs1 rs2 0x62⟩

theorem Sys2Proof.Laws.EncodeMatches.sdiv (rd rs1 rs2 : Sys2Proof.Reg) :
    Sys2Proof.Laws.EncodeMatches.Statement (Sys2Proof.Instr.sdiv rd rs1 rs2) :=
  ⟨0x64, .R, by decide, Sys2Proof.pack_and_maskR rd rs1 rs2 0x64⟩

theorem Sys2Proof.Laws.EncodeMatches.smod (rd rs1 rs2 : Sys2Proof.Reg) :
    Sys2Proof.Laws.EncodeMatches.Statement (Sys2Proof.Instr.smod rd rs1 rs2) :=
  ⟨0x65, .R, by decide, Sys2Proof.pack_and_maskR rd rs1 rs2 0x65⟩

theorem Sys2Proof.Laws.EncodeMatches.sdivmod (rd rd2 rs1 rs2 : Sys2Proof.Reg) :
    Sys2Proof.Laws.EncodeMatches.Statement (Sys2Proof.Instr.sdivmod rd rd2 rs1 rs2) :=
  ⟨0x66, .Q, by decide, Sys2Proof.pack_and_maskQ rd rd2 rs1 rs2 0x66⟩

theorem Sys2Proof.Laws.EncodeMatches.sign (rd rs1 : Sys2Proof.Reg) :
    Sys2Proof.Laws.EncodeMatches.Statement (Sys2Proof.Instr.sign rd rs1) :=
  ⟨0x70, .U, by decide, Sys2Proof.pack_and_maskU rd rs1 0x70⟩

theorem Sys2Proof.Laws.EncodeMatches.neg (rd rs1 : Sys2Proof.Reg) :
    Sys2Proof.Laws.EncodeMatches.Statement (Sys2Proof.Instr.neg rd rs1) :=
  ⟨0x71, .U, by decide, Sys2Proof.pack_and_maskU rd rs1 0x71⟩

theorem Sys2Proof.Laws.EncodeMatches.abs (rd rs1 : Sys2Proof.Reg) :
    Sys2Proof.Laws.EncodeMatches.Statement (Sys2Proof.Instr.abs rd rs1) :=
  ⟨0x72, .U, by decide, Sys2Proof.pack_and_maskU rd rs1 0x72⟩

theorem Sys2Proof.Laws.EncodeMatches.absu (rd rs1 : Sys2Proof.Reg) :
    Sys2Proof.Laws.EncodeMatches.Statement (Sys2Proof.Instr.absu rd rs1) :=
  ⟨0x73, .U, by decide, Sys2Proof.pack_and_maskU rd rs1 0x73⟩

theorem Sys2Proof.Laws.EncodeMatches.ucmp64 (rd rs1 rs2 : Sys2Proof.Reg) :
    Sys2Proof.Laws.EncodeMatches.Statement (Sys2Proof.Instr.ucmp64 rd rs1 rs2) :=
  ⟨0xA0, .R, by decide, Sys2Proof.pack_and_maskR rd rs1 rs2 0xA0⟩

theorem Sys2Proof.Laws.EncodeMatches.ult64 (rd rs1 rs2 : Sys2Proof.Reg) :
    Sys2Proof.Laws.EncodeMatches.Statement (Sys2Proof.Instr.ult64 rd rs1 rs2) :=
  ⟨0xA2, .R, by decide, Sys2Proof.pack_and_maskR rd rs1 rs2 0xA2⟩

theorem Sys2Proof.Laws.EncodeMatches.ule64 (rd rs1 rs2 : Sys2Proof.Reg) :
    Sys2Proof.Laws.EncodeMatches.Statement (Sys2Proof.Instr.ule64 rd rs1 rs2) :=
  ⟨0xA3, .R, by decide, Sys2Proof.pack_and_maskR rd rs1 rs2 0xA3⟩

theorem Sys2Proof.Laws.EncodeMatches.ugt64 (rd rs1 rs2 : Sys2Proof.Reg) :
    Sys2Proof.Laws.EncodeMatches.Statement (Sys2Proof.Instr.ugt64 rd rs1 rs2) :=
  ⟨0xA4, .R, by decide, Sys2Proof.pack_and_maskR rd rs1 rs2 0xA4⟩

theorem Sys2Proof.Laws.EncodeMatches.uge64 (rd rs1 rs2 : Sys2Proof.Reg) :
    Sys2Proof.Laws.EncodeMatches.Statement (Sys2Proof.Instr.uge64 rd rs1 rs2) :=
  ⟨0xA5, .R, by decide, Sys2Proof.pack_and_maskR rd rs1 rs2 0xA5⟩

theorem Sys2Proof.Laws.EncodeMatches.scmp64 (rd rs1 rs2 : Sys2Proof.Reg) :
    Sys2Proof.Laws.EncodeMatches.Statement (Sys2Proof.Instr.scmp64 rd rs1 rs2) :=
  ⟨0xB0, .R, by decide, Sys2Proof.pack_and_maskR rd rs1 rs2 0xB0⟩

theorem Sys2Proof.Laws.EncodeMatches.slt64 (rd rs1 rs2 : Sys2Proof.Reg) :
    Sys2Proof.Laws.EncodeMatches.Statement (Sys2Proof.Instr.slt64 rd rs1 rs2) :=
  ⟨0xB2, .R, by decide, Sys2Proof.pack_and_maskR rd rs1 rs2 0xB2⟩

theorem Sys2Proof.Laws.EncodeMatches.sle64 (rd rs1 rs2 : Sys2Proof.Reg) :
    Sys2Proof.Laws.EncodeMatches.Statement (Sys2Proof.Instr.sle64 rd rs1 rs2) :=
  ⟨0xB3, .R, by decide, Sys2Proof.pack_and_maskR rd rs1 rs2 0xB3⟩

theorem Sys2Proof.Laws.EncodeMatches.sgt64 (rd rs1 rs2 : Sys2Proof.Reg) :
    Sys2Proof.Laws.EncodeMatches.Statement (Sys2Proof.Instr.sgt64 rd rs1 rs2) :=
  ⟨0xB4, .R, by decide, Sys2Proof.pack_and_maskR rd rs1 rs2 0xB4⟩

theorem Sys2Proof.Laws.EncodeMatches.sge64 (rd rs1 rs2 : Sys2Proof.Reg) :
    Sys2Proof.Laws.EncodeMatches.Statement (Sys2Proof.Instr.sge64 rd rs1 rs2) :=
  ⟨0xB5, .R, by decide, Sys2Proof.pack_and_maskR rd rs1 rs2 0xB5⟩

theorem Sys2Proof.Laws.EncodeMatches.udiv64 (rd rs1 rs2 : Sys2Proof.Reg) :
    Sys2Proof.Laws.EncodeMatches.Statement (Sys2Proof.Instr.udiv64 rd rs1 rs2) :=
  ⟨0xE0, .R, by decide, Sys2Proof.pack_and_maskR rd rs1 rs2 0xE0⟩

theorem Sys2Proof.Laws.EncodeMatches.umod64 (rd rs1 rs2 : Sys2Proof.Reg) :
    Sys2Proof.Laws.EncodeMatches.Statement (Sys2Proof.Instr.umod64 rd rs1 rs2) :=
  ⟨0xE1, .R, by decide, Sys2Proof.pack_and_maskR rd rs1 rs2 0xE1⟩

theorem Sys2Proof.Laws.EncodeMatches.udivmod64 (rd rd2 rs1 rs2 : Sys2Proof.Reg) :
    Sys2Proof.Laws.EncodeMatches.Statement (Sys2Proof.Instr.udivmod64 rd rd2 rs1 rs2) :=
  ⟨0xE2, .Q, by decide, Sys2Proof.pack_and_maskQ rd rd2 rs1 rs2 0xE2⟩

theorem Sys2Proof.Laws.EncodeMatches.sdiv64 (rd rs1 rs2 : Sys2Proof.Reg) :
    Sys2Proof.Laws.EncodeMatches.Statement (Sys2Proof.Instr.sdiv64 rd rs1 rs2) :=
  ⟨0xE4, .R, by decide, Sys2Proof.pack_and_maskR rd rs1 rs2 0xE4⟩

theorem Sys2Proof.Laws.EncodeMatches.smod64 (rd rs1 rs2 : Sys2Proof.Reg) :
    Sys2Proof.Laws.EncodeMatches.Statement (Sys2Proof.Instr.smod64 rd rs1 rs2) :=
  ⟨0xE5, .R, by decide, Sys2Proof.pack_and_maskR rd rs1 rs2 0xE5⟩

theorem Sys2Proof.Laws.EncodeMatches.sdivmod64 (rd rd2 rs1 rs2 : Sys2Proof.Reg) :
    Sys2Proof.Laws.EncodeMatches.Statement (Sys2Proof.Instr.sdivmod64 rd rd2 rs1 rs2) :=
  ⟨0xE6, .Q, by decide, Sys2Proof.pack_and_maskQ rd rd2 rs1 rs2 0xE6⟩
end

