-- ==== Sys2Proof/Tests/Slice0.lean ====
section
/-! SUPPORT. The model's own tests: well-formedness, the decoding of every row of the opcode table, one step of every
instruction on the spec's own vectors, and, for each obligation with hypotheses, a state and operands that meet them. -/

namespace Sys2Proof.Machine.Tests

/-! Well-formedness (spec 30_encoding.md R44 (c), (d)): each check refuses an ill-formed term and accepts a good one. -/

theorem test_ldk_above_four_is_ill_formed : (Instr.ldk 0 5).wellFormed = false ∧ (Instr.ldk 0 4).wellFormed = true := by decide
theorem test_udivmod_one_destination_is_ill_formed :
    (Instr.udivmod 2 2 0 1).wellFormed = false ∧ (Instr.udivmod 2 3 0 1).wellFormed = true := by decide
theorem test_sdivmod_one_destination_is_ill_formed :
    (Instr.sdivmod 2 2 0 1).wellFormed = false ∧ (Instr.sdivmod 2 3 0 1).wellFormed = true := by decide
theorem test_udivmod64_one_destination_is_ill_formed :
    (Instr.udivmod64 2 2 0 1).wellFormed = false ∧ (Instr.udivmod64 2 3 0 1).wellFormed = true := by decide
theorem test_sdivmod64_one_destination_is_ill_formed :
    (Instr.sdivmod64 2 2 0 1).wellFormed = false ∧ (Instr.sdivmod64 2 3 0 1).wellFormed = true := by decide

/-! Decoding: one word of every row, written out from R37 and R42 with rd = 5, rs1 = 3, rs2 = 6, rd2 = 2 and
imm12 = 0xA53 (2 for LDK) in the fields the row's format has. The fields from the left: imm12, rd2, rs2, rs1, rd, op. -/

theorem test_decode_setc : decode 0b00000000000000000000010100000001 = .ok (.setc 5) := by decide
theorem test_decode_setu : decode 0b00000000000000000000010100000010 = .ok (.setu 5) := by decide
theorem test_decode_sets : decode 0b00000000000000000000010100000011 = .ok (.sets 5) := by decide
theorem test_decode_ldk : decode 0b00000000001000000000010100000100 = .ok (.ldk 5 2) := by decide
theorem test_decode_mov : decode 0b00000000000000000001110100000101 = .ok (.mov 5 3) := by decide
theorem test_decode_getc : decode 0b00000000000000000001100000000110 = .ok (.getc 3) := by decide
theorem test_decode_getlo : decode 0b00000000000000000001100000000111 = .ok (.getlo 3) := by decide
theorem test_decode_rdst : decode 0b00000000000000000000000000001000 = .ok .rdst := by decide
theorem test_decode_fitu64 : decode 0b00000000000000000001110100001001 = .ok (.fitu64 5 3) := by decide
theorem test_decode_fits64 : decode 0b00000000000000000001110100001010 = .ok (.fits64 5 3) := by decide
theorem test_decode_add : decode 0b00000000000000011001110100010000 = .ok (.add 5 3 6) := by decide
theorem test_decode_sub : decode 0b00000000000000011001110100010001 = .ok (.sub 5 3 6) := by decide
theorem test_decode_mul : decode 0b00000000000000011001110100010010 = .ok (.mul 5 3 6) := by decide
theorem test_decode_mulw : decode 0b00000000000000011001110100010011 = .ok (.mulw 5 3 6) := by decide
theorem test_decode_inc : decode 0b00000000000000000001110100010100 = .ok (.inc 5 3) := by decide
theorem test_decode_dec : decode 0b00000000000000000001110100010101 = .ok (.dec 5 3) := by decide
theorem test_decode_ucmp : decode 0b00000000000000011001110100100000 = .ok (.ucmp 5 3 6) := by decide
theorem test_decode_eq : decode 0b00000000000000011001110100100001 = .ok (.eq 5 3 6) := by decide
theorem test_decode_ult : decode 0b00000000000000011001110100100010 = .ok (.ult 5 3 6) := by decide
theorem test_decode_ule : decode 0b00000000000000011001110100100011 = .ok (.ule 5 3 6) := by decide
theorem test_decode_ugt : decode 0b00000000000000011001110100100100 = .ok (.ugt 5 3 6) := by decide
theorem test_decode_uge : decode 0b00000000000000011001110100100101 = .ok (.uge 5 3 6) := by decide
theorem test_decode_scmp : decode 0b00000000000000011001110100110000 = .ok (.scmp 5 3 6) := by decide
theorem test_decode_slt : decode 0b00000000000000011001110100110010 = .ok (.slt 5 3 6) := by decide
theorem test_decode_sle : decode 0b00000000000000011001110100110011 = .ok (.sle 5 3 6) := by decide
theorem test_decode_sgt : decode 0b00000000000000011001110100110100 = .ok (.sgt 5 3 6) := by decide
theorem test_decode_sge : decode 0b00000000000000011001110100110101 = .ok (.sge 5 3 6) := by decide
theorem test_decode_not : decode 0b00000000000000000001110101000000 = .ok (.not 5 3) := by decide
theorem test_decode_and : decode 0b00000000000000011001110101000001 = .ok (.and 5 3 6) := by decide
theorem test_decode_or : decode 0b00000000000000011001110101000010 = .ok (.or 5 3 6) := by decide
theorem test_decode_xor : decode 0b00000000000000011001110101000011 = .ok (.xor 5 3 6) := by decide
theorem test_decode_shl : decode 0b00000000000000011001110101001000 = .ok (.shl 5 3 6) := by decide
theorem test_decode_shr : decode 0b00000000000000011001110101001001 = .ok (.shr 5 3 6) := by decide
theorem test_decode_shli : decode 0b10100101001100000001110101001010 = .ok (.shli 5 3 0xa53) := by decide
theorem test_decode_shri : decode 0b10100101001100000001110101001011 = .ok (.shri 5 3 0xa53) := by decide
theorem test_decode_lzcnt : decode 0b00000000000000000001110101010000 = .ok (.lzcnt 5 3) := by decide
theorem test_decode_tzcnt : decode 0b00000000000000000001110101010001 = .ok (.tzcnt 5 3) := by decide
theorem test_decode_popcnt : decode 0b00000000000000000001110101010010 = .ok (.popcnt 5 3) := by decide
theorem test_decode_bitlen : decode 0b00000000000000000001110101010011 = .ok (.bitlen 5 3) := by decide
theorem test_decode_bit : decode 0b00000000000000011001110101010100 = .ok (.bit 5 3 6) := by decide
theorem test_decode_biti : decode 0b10100101001100000001110101010101 = .ok (.biti 5 3 0xa53) := by decide
theorem test_decode_bset : decode 0b00000000000000011001110101010110 = .ok (.bset 5 3 6) := by decide
theorem test_decode_bclr : decode 0b00000000000000011001110101010111 = .ok (.bclr 5 3 6) := by decide
theorem test_decode_bseti : decode 0b10100101001100000001110101011000 = .ok (.bseti 5 3 0xa53) := by decide
theorem test_decode_bclri : decode 0b10100101001100000001110101011001 = .ok (.bclri 5 3 0xa53) := by decide
theorem test_decode_udiv : decode 0b00000000000000011001110101100000 = .ok (.udiv 5 3 6) := by decide
theorem test_decode_umod : decode 0b00000000000000011001110101100001 = .ok (.umod 5 3 6) := by decide
theorem test_decode_udivmod : decode 0b00000000000001011001110101100010 = .ok (.udivmod 5 2 3 6) := by decide
theorem test_decode_sdiv : decode 0b00000000000000011001110101100100 = .ok (.sdiv 5 3 6) := by decide
theorem test_decode_smod : decode 0b00000000000000011001110101100101 = .ok (.smod 5 3 6) := by decide
theorem test_decode_sdivmod : decode 0b00000000000001011001110101100110 = .ok (.sdivmod 5 2 3 6) := by decide
theorem test_decode_sign : decode 0b00000000000000000001110101110000 = .ok (.sign 5 3) := by decide
theorem test_decode_neg : decode 0b00000000000000000001110101110001 = .ok (.neg 5 3) := by decide
theorem test_decode_abs : decode 0b00000000000000000001110101110010 = .ok (.abs 5 3) := by decide
theorem test_decode_absu : decode 0b00000000000000000001110101110011 = .ok (.absu 5 3) := by decide
theorem test_decode_ucmp64 : decode 0b00000000000000011001110110100000 = .ok (.ucmp64 5 3 6) := by decide
theorem test_decode_ult64 : decode 0b00000000000000011001110110100010 = .ok (.ult64 5 3 6) := by decide
theorem test_decode_ule64 : decode 0b00000000000000011001110110100011 = .ok (.ule64 5 3 6) := by decide
theorem test_decode_ugt64 : decode 0b00000000000000011001110110100100 = .ok (.ugt64 5 3 6) := by decide
theorem test_decode_uge64 : decode 0b00000000000000011001110110100101 = .ok (.uge64 5 3 6) := by decide
theorem test_decode_scmp64 : decode 0b00000000000000011001110110110000 = .ok (.scmp64 5 3 6) := by decide
theorem test_decode_slt64 : decode 0b00000000000000011001110110110010 = .ok (.slt64 5 3 6) := by decide
theorem test_decode_sle64 : decode 0b00000000000000011001110110110011 = .ok (.sle64 5 3 6) := by decide
theorem test_decode_sgt64 : decode 0b00000000000000011001110110110100 = .ok (.sgt64 5 3 6) := by decide
theorem test_decode_sge64 : decode 0b00000000000000011001110110110101 = .ok (.sge64 5 3 6) := by decide
theorem test_decode_udiv64 : decode 0b00000000000000011001110111100000 = .ok (.udiv64 5 3 6) := by decide
theorem test_decode_umod64 : decode 0b00000000000000011001110111100001 = .ok (.umod64 5 3 6) := by decide
theorem test_decode_udivmod64 : decode 0b00000000000001011001110111100010 = .ok (.udivmod64 5 2 3 6) := by decide
theorem test_decode_sdiv64 : decode 0b00000000000000011001110111100100 = .ok (.sdiv64 5 3 6) := by decide
theorem test_decode_smod64 : decode 0b00000000000000011001110111100101 = .ok (.smod64 5 3 6) := by decide
theorem test_decode_sdivmod64 : decode 0b00000000000001011001110111100110 = .ok (.sdivmod64 5 2 3 6) := by decide

/-! Reserved opcodes and non-zero unused fields (spec/95_test_vectors.md table 2.0). -/

theorem test_decode_rejects_0x00000000 : decode 0x00000000 = .error .reservedOpcode := by decide
theorem test_decode_rejects_0x000042A1 : decode 0x000042A1 = .error .reservedOpcode := by decide
theorem test_decode_rejects_0x00004231 : decode 0x00004231 = .error .reservedOpcode := by decide
theorem test_decode_rejects_0x00000108 : decode 0x00000108 = .error .unusedField := by decide
theorem test_decode_rejects_0x00000801 : decode 0x00000801 = .error .unusedField := by decide
theorem test_decode_rejects_0x80004210 : decode 0x80004210 = .error .unusedField := by decide
theorem test_decode_rejects_0x0000434A : decode 0x0000434A = .error .unusedField := by decide
theorem test_decode_rejects_0x00164262 : decode 0x00164262 = .error .unusedField := by decide
theorem test_decode_table_word : decodeTableWord 32 0x00004210 = some (.add 2 0 1) := by decide

/-! One step of each instruction. The set-up of spec/96 and spec/97: operands in V[0] and V[1], result in V[2], the remainder
of a combined divide in V[3]. -/

/-- Just out of reset with `V[0]` and `V[1]` written, and one command pending. -/
def issue (w : BitVec 32) (v0 v1 : Value) : State :=
  { State.reset with v := (State.reset.v.set 0 v0).set 1 v1, input := [.command w ⟨0, 0⟩] }

/-- The state after one step. -/
def next (s : State) : State :=
  match step s with
  | .next t => t
  | .fault _ => s
  | .refused _ => s

/-- `V[2]` after one command. -/
def result (w : BitVec 32) (v0 v1 : Value) : Value := (next (issue w v0 v1)).readV 2

/-- `V[2]`, `V[3]` and STATUS after one command. -/
def divided (w : BitVec 32) (v0 v1 : Value) : Value × Value × BitVec 32 :=
  let t := next (issue w v0 v1)
  (t.readV 2, t.readV 3, t.status)

/-- Fault entry: STATUS, FCMD, and that `V[2]`, `V[3]` and the response are untouched. -/
def faultedAs (w : BitVec 32) (v0 v1 : Value) (status : BitVec 32) : Bool :=
  let t := next (issue w v0 v1)
  t.status == status && t.fcmd == w && t.v == (issue w v0 v1).v && t.dout == none && t.faultPin

/-! Data movement (spec/95 sections 1 and 2, program P1). -/

/-- One constructor command with a DIN pair, and what `V[1]` holds after it. -/
def loaded (w : BitVec 32) (d : Value) : Value :=
  (next { State.reset with input := [.command w d] }).readV 1

theorem test_setc_loads_both_words : loaded 0x00000101 ⟨0xFEDCBA9876543210, 7⟩ = ⟨0xFEDCBA9876543210, 7⟩ := by decide
theorem test_setu_zero_extends : loaded 0x00000102 ⟨9, 0xFFFFFFFFFFFFFFFF⟩ = ⟨0, 0xFFFFFFFFFFFFFFFF⟩ := by decide
theorem test_sets_sign_extends : loaded 0x00000103 ⟨9, 0xFFFFFFFFFFFFFFFE⟩ = ⟨0xFFFFFFFFFFFFFFFF, 0xFFFFFFFFFFFFFFFE⟩ := by decide
theorem test_ldk_maxs : loaded 0x00300104 zero = ⟨0x7FFFFFFFFFFFFFFF, 0xFFFFFFFFFFFFFFFF⟩ := by decide
theorem test_ldk_five_faults : faultedAs 0x00500004 one one 0x05 = true := by decide
theorem test_mov_copies : result 0x00000205 ⟨5, 7⟩ zero = ⟨5, 7⟩ := by decide
theorem test_getc_responds : (next (issue 0x00000806 zero ⟨1, 2⟩)).dout = some ⟨1, 2⟩ := by decide
theorem test_getlo_truncates : (next (issue 0x00000807 zero ⟨5, 7⟩)).dout = some ⟨0, 7⟩ := by decide
/-- spec/95 P4, step 7. -/
theorem test_rdst_in_the_fault_state :
    (next { issue 0x00000008 zero zero with status := 0x63, fcmd := 0x4361 }).dout = some ⟨0x4361, 0x63⟩ := by decide

/-! The vectors of spec/96 and spec/97. -/

theorem test_fitu64_1 : result 0x00000209 ⟨0x0, 0xFFFFFFFFFFFFFFFF⟩ zero = one := by decide
theorem test_fitu64_2 : result 0x00000209 ⟨0x1, 0x0⟩ zero = zero := by decide
theorem test_fits64_1 : result 0x0000020A ⟨0xFFFFFFFFFFFFFFFF, 0x8000000000000000⟩ zero = one := by decide
theorem test_fits64_2 : result 0x0000020A mins zero = zero := by decide
theorem test_add_1 : result 0x00004210 ⟨0x0, 0xFFFFFFFFFFFFFFFF⟩ one = ⟨0x1, 0x0⟩ := by decide
theorem test_add_2 : result 0x00004210 ⟨0xFFFFFFFFFFFFFFFF, 0xFFFFFFFFFFFFFFFE⟩ maxu = ⟨0xFFFFFFFFFFFFFFFF, 0xFFFFFFFFFFFFFFFD⟩ := by decide
theorem test_sub_1 : result 0x00004211 ⟨0x1, 0x0⟩ one = ⟨0x0, 0xFFFFFFFFFFFFFFFF⟩ := by decide
theorem test_sub_2 : result 0x00004211 maxs maxu = mins := by decide
theorem test_mul_1 : result 0x00004212 ⟨0x0, 0x3⟩ ⟨0xFFFFFFFFFFFFFFFF, 0xFFFFFFFFFFFFFFFB⟩ = ⟨0xFFFFFFFFFFFFFFFF, 0xFFFFFFFFFFFFFFF1⟩ := by decide
theorem test_mul_2 : result 0x00004212 ⟨0x2, 0x3⟩ ⟨0x5, 0x7⟩ = ⟨0x1D, 0x15⟩ := by decide
theorem test_mulw : result 0x00004213 ⟨0xDEAD, 0xFFFFFFFFFFFFFFFF⟩ ⟨0xBEEF, 0xFFFFFFFFFFFFFFFF⟩ = ⟨0xFFFFFFFFFFFFFFFE, 0x1⟩ := by decide
theorem test_inc_1 : result 0x00000214 ⟨0x0, 0xFFFFFFFFFFFFFFFF⟩ zero = ⟨0x1, 0x0⟩ := by decide
theorem test_inc_2 : result 0x00000214 maxs zero = mins := by decide
theorem test_dec_1 : result 0x00000215 ⟨0x1, 0x0⟩ zero = ⟨0x0, 0xFFFFFFFFFFFFFFFF⟩ := by decide
theorem test_dec_2 : result 0x00000215 mins zero = maxs := by decide
theorem test_ucmp_1 : result 0x00004220 ⟨0x0, 0x5⟩ ⟨0x0, 0x7⟩ = maxu := by decide
theorem test_ucmp_2 : result 0x00004220 ⟨0x1, 0x0⟩ ⟨0x0, 0xFFFFFFFFFFFFFFFF⟩ = one := by decide
theorem test_eq_1 : result 0x00004221 ⟨0x123456789ABCDEF, 0xFEDCBA9876543210⟩ ⟨0x123456789ABCDEF, 0xFEDCBA9876543210⟩ = one := by decide
theorem test_eq_2 : result 0x00004221 ⟨0x1, 0x0⟩ zero = zero := by decide
theorem test_ult_1 : result 0x00004222 ⟨0x0, 0x5⟩ ⟨0x0, 0x7⟩ = one := by decide
theorem test_ult_2 : result 0x00004222 ⟨0x0, 0x7⟩ ⟨0x0, 0x7⟩ = zero := by decide
theorem test_ule_1 : result 0x00004223 ⟨0x0, 0x7⟩ ⟨0x0, 0x7⟩ = one := by decide
theorem test_ule_2 : result 0x00004223 ⟨0x1, 0x0⟩ ⟨0x0, 0x7⟩ = zero := by decide
theorem test_ugt_1 : result 0x00004224 mins maxs = one := by decide
theorem test_ugt_2 : result 0x00004224 ⟨0x0, 0x7⟩ ⟨0x0, 0x7⟩ = zero := by decide
theorem test_uge_1 : result 0x00004225 ⟨0x0, 0x7⟩ ⟨0x0, 0x7⟩ = one := by decide
theorem test_uge_2 : result 0x00004225 zero one = zero := by decide
theorem test_scmp_1 : result 0x00004230 mins maxs = maxu := by decide
theorem test_scmp_2 : result 0x00004230 ⟨0xFFFFFFFFFFFFFFFF, 0xFFFFFFFFFFFFFFFE⟩ ⟨0xFFFFFFFFFFFFFFFF, 0xFFFFFFFFFFFFFFFD⟩ = one := by decide
theorem test_slt_1 : result 0x00004232 maxu zero = one := by decide
theorem test_slt_2 : result 0x00004232 zero maxu = zero := by decide
theorem test_sle : result 0x00004233 mins mins = one := by decide
theorem test_sgt_1 : result 0x00004234 zero mins = one := by decide
theorem test_sgt_2 : result 0x00004234 ⟨0xFFFFFFFFFFFFFFFF, 0xFFFFFFFFFFFFFFFD⟩ ⟨0xFFFFFFFFFFFFFFFF, 0xFFFFFFFFFFFFFFFE⟩ = zero := by decide
theorem test_sge_1 : result 0x00004235 ⟨0xFFFFFFFFFFFFFFFF, 0xFFFFFFFFFFFFFFFE⟩ ⟨0xFFFFFFFFFFFFFFFF, 0xFFFFFFFFFFFFFFFE⟩ = one := by decide
theorem test_sge_2 : result 0x00004235 mins maxu = zero := by decide
theorem test_not : result 0x00000240 ⟨0x123456789ABCDEF, 0xFEDCBA9876543210⟩ zero = ⟨0xFEDCBA9876543210, 0x123456789ABCDEF⟩ := by decide
theorem test_and : result 0x00004241 ⟨0x123456789ABCDEF, 0xFEDCBA9876543210⟩ ⟨0xFFFFFFFFFFFFFFFF, 0x0⟩ = ⟨0x123456789ABCDEF, 0x0⟩ := by decide
theorem test_or : result 0x00004242 ⟨0xF0, 0xF⟩ ⟨0xF, 0xF0⟩ = ⟨0xFF, 0xFF⟩ := by decide
theorem test_xor : result 0x00004243 ⟨0x123456789ABCDEF, 0xFEDCBA9876543210⟩ ⟨0x123456789ABCDEF, 0xFEDCBA9876543210⟩ = zero := by decide
theorem test_shl_1 : result 0x00004248 one ⟨0x0, 0x7F⟩ = mins := by decide
theorem test_shl_2 : result 0x00004248 maxu ⟨0x1, 0x0⟩ = zero := by decide
theorem test_shr_1 : result 0x00004249 mins ⟨0x0, 0x40⟩ = ⟨0x0, 0x8000000000000000⟩ := by decide
theorem test_shr_2 : result 0x00004249 maxu ⟨0x1, 0x1⟩ = zero := by decide
theorem test_shli_1 : result 0x0040024A ⟨0x123456789ABCDEF, 0xFEDCBA9876543210⟩ zero = ⟨0x123456789ABCDEFF, 0xEDCBA98765432100⟩ := by decide
theorem test_shli_2 : result 0x0800024A maxu zero = zero := by decide
theorem test_shri_1 : result 0x0040024B ⟨0x123456789ABCDEF, 0xFEDCBA9876543210⟩ zero = ⟨0x123456789ABCDE, 0xFFEDCBA987654321⟩ := by decide
theorem test_shri_2 : result 0x0010024B maxu zero = maxs := by decide
theorem test_lzcnt_1 : result 0x00000250 zero zero = ⟨0x0, 0x80⟩ := by decide
theorem test_lzcnt_2 : result 0x00000250 ⟨0x0, 0x8000000000000000⟩ zero = ⟨0x0, 0x40⟩ := by decide
theorem test_tzcnt_1 : result 0x00000251 zero zero = ⟨0x0, 0x80⟩ := by decide
theorem test_tzcnt_2 : result 0x00000251 ⟨0x1, 0x1⟩ zero = zero := by decide
theorem test_popcnt_1 : result 0x00000252 maxu zero = ⟨0x0, 0x80⟩ := by decide
theorem test_popcnt_2 : result 0x00000252 ⟨0x123456789ABCDEF, 0xFEDCBA9876543210⟩ zero = ⟨0x0, 0x40⟩ := by decide
theorem test_bitlen_1 : result 0x00000253 zero zero = zero := by decide
theorem test_bitlen_2 : result 0x00000253 ⟨0x1, 0x0⟩ zero = ⟨0x0, 0x41⟩ := by decide
theorem test_bit_1 : result 0x00004254 maxu ⟨0x0, 0x5⟩ = one := by decide
theorem test_bit_2 : result 0x00004254 maxu ⟨0x1, 0x5⟩ = zero := by decide
theorem test_biti_1 : result 0x03F00255 ⟨0x0, 0x8000000000000000⟩ zero = one := by decide
theorem test_biti_2 : result 0x08000255 maxu zero = zero := by decide
theorem test_bset_1 : result 0x00004256 zero ⟨0x0, 0x64⟩ = ⟨0x1000000000, 0x0⟩ := by decide
theorem test_bset_2 : result 0x00004256 zero ⟨0x0, 0x80⟩ = zero := by decide
theorem test_bclr_1 : result 0x00004257 maxu ⟨0x0, 0x40⟩ = ⟨0xFFFFFFFFFFFFFFFE, 0xFFFFFFFFFFFFFFFF⟩ := by decide
theorem test_bclr_2 : result 0x00004257 maxu ⟨0x5, 0x0⟩ = maxu := by decide
theorem test_bseti_1 : result 0x04000258 zero zero = ⟨0x1, 0x0⟩ := by decide
theorem test_bseti_2 : result 0x08000258 ⟨0x123456789ABCDEF, 0xFEDCBA9876543210⟩ zero = ⟨0x123456789ABCDEF, 0xFEDCBA9876543210⟩ := by decide
theorem test_bclri_1 : result 0x07F00259 mins zero = zero := by decide
theorem test_bclri_2 : result 0x0C800259 maxu zero = maxu := by decide
theorem test_udiv : divided 0x00004260 maxu ⟨0x0, 0x3⟩ = (⟨0x5555555555555555, 0x5555555555555555⟩, (State.reset.readV 3), 0x60) := by decide
theorem test_umod : divided 0x00004261 maxu ⟨0x0, 0xA⟩ = (⟨0x0, 0x5⟩, (State.reset.readV 3), 0x60) := by decide
theorem test_udivmod_1 : divided 0x00064262 ⟨0x8000, 0x0⟩ ⟨0x0, 0xC000000000000000⟩ = (⟨0x0, 0xAAAA⟩, ⟨0x0, 0x8000000000000000⟩, 0x80) := by decide
theorem test_udivmod_2 : divided 0x00064262 maxu ⟨0x1, 0x1⟩ = (⟨0x0, 0xFFFFFFFFFFFFFFFF⟩, zero, 0x70) := by decide
theorem test_sdiv : divided 0x00004264 ⟨0xFFFFFFFFFFFFFFFF, 0xFFFFFFFFFFFFFF9C⟩ ⟨0x0, 0x7⟩ = (⟨0xFFFFFFFFFFFFFFFF, 0xFFFFFFFFFFFFFFF2⟩, (State.reset.readV 3), 0x20) := by decide
theorem test_smod : divided 0x00004265 ⟨0xFFFFFFFFFFFFFFFF, 0xFFFFFFFFFFFFFF9C⟩ ⟨0x0, 0x7⟩ = (⟨0xFFFFFFFFFFFFFFFF, 0xFFFFFFFFFFFFFFFE⟩, (State.reset.readV 3), 0x20) := by decide
theorem test_sdivmod_1 : divided 0x00064266 ⟨0xFFFFFFFFFFFFFFFF, 0xFFFFFFFFFFFFFFF9⟩ ⟨0x0, 0x2⟩ = (⟨0xFFFFFFFFFFFFFFFF, 0xFFFFFFFFFFFFFFFD⟩, maxu, 0x20) := by decide
theorem test_sdivmod_2 : divided 0x00064266 mins maxu = (mins, zero, 0x10) := by decide
theorem test_sign_1 : result 0x00000270 ⟨0x0, 0x2A⟩ zero = one := by decide
theorem test_sign_2 : result 0x00000270 mins zero = maxu := by decide
theorem test_neg_1 : result 0x00000271 mins zero = mins := by decide
theorem test_neg_2 : result 0x00000271 ⟨0x1, 0x0⟩ zero = ⟨0xFFFFFFFFFFFFFFFF, 0x0⟩ := by decide
theorem test_abs_1 : result 0x00000272 ⟨0xFFFFFFFFFFFFFFFF, 0xFFFFFFFFFFFFFFF9⟩ zero = ⟨0x0, 0x7⟩ := by decide
theorem test_abs_2 : result 0x00000272 mins zero = mins := by decide
theorem test_absu_1 : result 0x00000273 ⟨0xFFFFFFFFFFFFFFFF, 0xFFFFFFFFFFFFFFF9⟩ zero = ⟨0x0, 0x7⟩ := by decide
theorem test_absu_2 : result 0x00000273 mins zero = mins := by decide
theorem test_ucmp64_1 : result 0x000042A0 ⟨0x0, 0x5⟩ ⟨0xFFFF, 0x7⟩ = maxu := by decide
theorem test_ucmp64_2 : result 0x000042A0 ⟨0x1, 0x0⟩ ⟨0x0, 0xFFFFFFFFFFFFFFFF⟩ = one := by decide
theorem test_ult64 : result 0x000042A2 ⟨0x0, 0x5⟩ ⟨0x9, 0x7⟩ = one := by decide
theorem test_ule64 : result 0x000042A3 ⟨0x0, 0x7⟩ ⟨0x9, 0x7⟩ = one := by decide
theorem test_ugt64 : result 0x000042A4 ⟨0x1, 0x0⟩ ⟨0x9, 0xFFFFFFFFFFFFFFFF⟩ = one := by decide
theorem test_uge64 : result 0x000042A5 ⟨0x0, 0x6⟩ ⟨0x9, 0x7⟩ = zero := by decide
theorem test_scmp64_1 : result 0x000042B0 ⟨0xFFFFFFFFFFFFFFFF, 0xFFFFFFFFFFFFFFFB⟩ ⟨0x1234, 0xFFFFFFFFFFFFFFFD⟩ = maxu := by decide
theorem test_scmp64_2 : result 0x000042B0 one ⟨0x0, 0xFFFFFFFFFFFFFFFF⟩ = one := by decide
theorem test_slt64 : result 0x000042B2 ⟨0xFFFFFFFFFFFFFFFF, 0xFFFFFFFFFFFFFFFB⟩ ⟨0x0, 0xFFFFFFFFFFFFFFFD⟩ = one := by decide
theorem test_sle64 : result 0x000042B3 ⟨0xFFFFFFFFFFFFFFFF, 0xFFFFFFFFFFFFFFFD⟩ ⟨0x0, 0xFFFFFFFFFFFFFFFD⟩ = one := by decide
theorem test_sgt64 : result 0x000042B4 zero ⟨0x0, 0xFFFFFFFFFFFFFFFF⟩ = one := by decide
theorem test_sge64 : result 0x000042B5 mins ⟨0x0, 0x8000000000000000⟩ = zero := by decide
theorem test_udiv64 : divided 0x000042E0 ⟨0xFEDCBA9876543210, 0x123456789ABCDEF⟩ ⟨0xFFFF, 0x10000⟩ = (⟨0xFEDCBA987654, 0x32100123456789AB⟩, (State.reset.readV 3), 0x30) := by decide
theorem test_umod64 : divided 0x000042E1 maxu ⟨0x7, 0xA⟩ = (⟨0x0, 0x5⟩, (State.reset.readV 3), 0x60) := by decide
theorem test_udivmod64 : divided 0x000642E2 ⟨0x0, 0x64⟩ ⟨0x1, 0x7⟩ = (⟨0x0, 0xE⟩, ⟨0x0, 0x2⟩, 0x20) := by decide
theorem test_sdiv64 : divided 0x000042E4 ⟨0xFFFFFFFFFFFFFFFF, 0xFFFFFFFFFFFFFF9C⟩ ⟨0x55, 0xFFFFFFFFFFFFFFF9⟩ = (⟨0x0, 0xE⟩, (State.reset.readV 3), 0x20) := by decide
theorem test_smod64 : divided 0x000042E5 ⟨0xFFFFFFFFFFFFFFFF, 0xFFFFFFFFFFFFFF9C⟩ ⟨0x55, 0xFFFFFFFFFFFFFFF9⟩ = (⟨0xFFFFFFFFFFFFFFFF, 0xFFFFFFFFFFFFFFFE⟩, (State.reset.readV 3), 0x20) := by decide
theorem test_sdivmod64 : divided 0x000642E6 ⟨0x0, 0x64⟩ ⟨0x0, 0xFFFFFFFFFFFFFFFF⟩ = (⟨0xFFFFFFFFFFFFFFFF, 0xFFFFFFFFFFFFFF9C⟩, zero, 0x10) := by decide

/-! Assembled lines (spec/30 R45's own examples). -/

theorem test_assemble_setu : assemble ⟨9, 9⟩ (.setu 1 1) = .command 0x00000102 ⟨9, 1⟩ := by decide
theorem test_assemble_maxs : assemble zero (.ldkNamed 0 .MAXS) = .command 0x00300004 zero := by decide
theorem test_assemble_setbit : assemble zero (.pseudo (.setbit 2 0 64 true)) = .command 0x04000258 zero := by decide

/-! Division by zero (spec/97 table 2.13). -/

theorem test_udiv_by_zero : faultedAs 0x00004260 ⟨0xFEDCBA9876543210, 0x123456789ABCDEF⟩ zero 0x03 = true := by decide
theorem test_umod_by_zero : faultedAs 0x00004261 ⟨0xFEDCBA9876543210, 0x123456789ABCDEF⟩ zero 0x03 = true := by decide
theorem test_udivmod_by_zero : faultedAs 0x00064262 ⟨0xFEDCBA9876543210, 0x123456789ABCDEF⟩ zero 0x03 = true := by decide
theorem test_sdiv_by_zero : faultedAs 0x00004264 ⟨0xFEDCBA9876543210, 0x123456789ABCDEF⟩ zero 0x03 = true := by decide
theorem test_smod_by_zero : faultedAs 0x00004265 ⟨0xFEDCBA9876543210, 0x123456789ABCDEF⟩ zero 0x03 = true := by decide
theorem test_sdivmod_by_zero : faultedAs 0x00064266 ⟨0xFEDCBA9876543210, 0x123456789ABCDEF⟩ zero 0x03 = true := by decide
theorem test_udiv64_by_zero : faultedAs 0x000042E0 ⟨0xFEDCBA9876543210, 0x123456789ABCDEF⟩ ⟨0xFFFF, 0x0⟩ 0x03 = true := by decide
theorem test_umod64_by_zero : faultedAs 0x000042E1 ⟨0xFEDCBA9876543210, 0x123456789ABCDEF⟩ ⟨0xFFFF, 0x0⟩ 0x03 = true := by decide
theorem test_udivmod64_by_zero : faultedAs 0x000642E2 ⟨0xFEDCBA9876543210, 0x123456789ABCDEF⟩ ⟨0xFFFF, 0x0⟩ 0x03 = true := by decide
theorem test_sdiv64_by_zero : faultedAs 0x000042E4 ⟨0xFEDCBA9876543210, 0x123456789ABCDEF⟩ ⟨0xFFFF, 0x0⟩ 0x03 = true := by decide
theorem test_smod64_by_zero : faultedAs 0x000042E5 ⟨0xFEDCBA9876543210, 0x123456789ABCDEF⟩ ⟨0xFFFF, 0x0⟩ 0x03 = true := by decide
theorem test_sdivmod64_by_zero : faultedAs 0x000642E6 ⟨0xFEDCBA9876543210, 0x123456789ABCDEF⟩ ⟨0xFFFF, 0x0⟩ 0x03 = true := by decide

/-! Fault priority, the fault state and RESET (spec/95 P4, P5). -/

theorem test_combined_divide_illegal_before_zero : faultedAs 0x00044262 one zero 0x05 = true := by decide
theorem test_division_by_zero_keeps_dpath :
    (next { issue 0x00004361 one zero with status := 0x60 }).status = 0x63 := by decide
theorem test_fault_state_ignores_illegal_word :
    next { issue 0x00000000 one zero with status := 0x63, fcmd := 0x4361 } =
      { issue 0x00000000 one zero with status := 0x63, fcmd := 0x4361, input := [] } := by decide
theorem test_reset_leaves_the_fault_state :
    (next { issue 0 one zero with status := 0x63, fcmd := 0x4361, input := [.assertReset] }).status = 0 := by decide
theorem test_no_command_during_reset :
    (next { issue 0x00100204 one zero with resetPin := true }).readV 2 = State.reset.readV 2 := by decide
theorem test_placed_word_runs : (next (State.reset.withFetchWord 32 0x00100204)).readV 2 = one := by decide


/-! Witnesses: for each obligation with hypotheses, a state and operands that meet them all, one for each clause at a
boundary value of its range. The hypothesis of most of them is a state outside the fault state. -/

/-- Just out of reset with `V[0]` and `V[1]` written, and nothing pending. -/
def holding (v0 v1 : Value) : State :=
  { State.reset with v := (State.reset.v.set 0 v0).set 1 v1 }

/-- In the fault state after `UMOD V[3], V[0], V[1]` (0x4361) with DPATH 6, the given host actions pending. -/
def stuck (input : List HostEvent) : State :=
  { holding one zero with status := 0x63, fcmd := 0x4361, input := input }

/-- A step from `s` answers a next state. -/
def advances (s : State) : Bool :=
  match step s with
  | .next _ => true
  | .fault _ => false
  | .refused _ => false

theorem step_next {s : State} (h : advances s = true) : step s = .next (next s) := by
  unfold next
  cases hs : step s <;> simp_all [advances]

theorem witness_EncodeOfDecodeIsIdentity :
    decode 0x00004210 = .ok (.add 2 0 1) ∧ decode 0x00500004 = .ok (.ldk 0 5) ∧
      decode 0x00044262 = .ok (.udivmod 2 2 0 1) := by decide

theorem witness_DecodeIsMaskAndMatch :
    decode 0x000642E6 = .ok (.sdivmod64 2 3 0 1) ∧ (0xE6, Format.Q) ∈ opcodeMap ∧
      (0x000642E6 : BitVec 32) &&& Format.Q.mask = (0xE6 : BitVec 8).setWidth 32 := by decide

/-- Illegal: a reserved opcode, an unused field, LDK 5, equal destinations. Legal: LDK 4, distinct destinations. -/
theorem witness_IllegalWordsFaultAndNoOthers :
    (issue 0x00500004 one zero).input = [.command 0x00500004 ⟨0, 0⟩] ∧
      (issue 0x00500004 one zero).resetPin = false ∧ (issue 0x00500004 one zero).faulted = false ∧
      illegalWord 0x00000000 = true ∧ illegalWord 0x00000108 = true ∧ illegalWord 0x00500004 = true ∧
      illegalWord 0x00044262 = true ∧ illegalWord 0x00400004 = false ∧ illegalWord 0x00064262 = false := by decide

theorem witness_StepRunsTheDecodedCommand :
    (issue 0x00004210 one one).input = [.command 0x00004210 ⟨0, 0⟩] ∧
      (issue 0x00004210 one one).resetPin = false ∧ decode 0x00004210 = .ok (.add 2 0 1) := by decide

theorem witness_HostActionsAreTakenInOrder :
    step { State.reset with input := [.assertReset, .command 8 ⟨0, 0⟩] } =
      .next (next { State.reset with input := [.assertReset, .command 8 ⟨0, 0⟩] }) := step_next (by decide)

theorem witness_IdleStepChangesNothing : State.reset.input = [] := by decide

/-- One state for each clause: assertion; release when asserted and when not; a command while it is asserted. -/
theorem witness_ResetPinEffects :
    (stuck [.assertReset]).input = [.assertReset] ∧
      ({ State.reset with resetPin := true, input := [.releaseReset] }).resetPin = true ∧
      (stuck [.releaseReset]).input = [.releaseReset] ∧ (stuck [.releaseReset]).resetPin = false ∧
      ({ State.reset with resetPin := true, input := [.command 0x4210 one] }).input = [.command 0x4210 one] := by decide

/-- RDST, a legal word and an illegal word, each pending in the fault state. -/
theorem witness_FaultStateIgnoresCommands :
    (stuck [.command 0x00000008 one]).faulted = true ∧ (stuck [.command 0x00000008 one]).resetPin = false ∧
      (stuck [.command 0x00000008 one]).input = [.command 0x00000008 one] ∧
      (stuck [.command 0x00004210 one]).input = [.command 0x00004210 one] ∧ (0x00004210 : BitVec 32) ≠ 0x00000008 ∧
      (stuck [.command 0x00000000 one]).input = [.command 0x00000000 one] := by decide

/-- A step that leaves the fault state and one that does not. -/
theorem witness_OnlyResetLeavesTheFaultState :
    ((stuck [.assertReset]).faulted = true ∧ step (stuck [.assertReset]) = .next (next (stuck [.assertReset])) ∧
      (next (stuck [.assertReset])).faulted = false) ∧
    ((stuck [.command 8 one]).faulted = true ∧ step (stuck [.command 8 one]) = .next (next (stuck [.command 8 one])) ∧
      (next (stuck [.command 8 one])).faulted = true) :=
  ⟨⟨by decide, step_next (by decide), by decide⟩, by decide, step_next (by decide), by decide⟩

theorem inv_stuck : Inv (stuck [.command 0x4361 one]) where
  reserved := by decide
  cause := by decide
  dpath := by decide
  faulted := by decide
  fcmdClear := by decide
  illegal := by decide
  division := fun _ => ⟨.umod 3 0 1, by decide⟩
  inReset := by decide

/-- From a state that recorded a division by zero: the step after it. -/
theorem witness_StepKeepsTheInvariant :
    Inv (stuck [.command 0x4361 one]) ∧
      step (stuck [.command 0x4361 one]) = .next (next (stuck [.command 0x4361 one])) :=
  ⟨inv_stuck, step_next (by decide)⟩

/-- A command that changes its destination, and RESET that changes a register. -/
theorem witness_RegistersChangeOnlyAsDestinations :
    step (issue 0x00004210 one one) = .next (next (issue 0x00004210 one one)) ∧
      (next (issue 0x00004210 one one)).readV 2 ≠ (issue 0x00004210 one one).readV 2 ∧
      step (stuck [.assertReset]) = .next (next (stuck [.assertReset])) ∧
      (next (stuck [.assertReset])).readV 0 ≠ (stuck [.assertReset]).readV 0 :=
  ⟨step_next (by decide), by decide, step_next (by decide), by decide⟩

/-- A completed division, a division by zero, an illegal word, RESET. -/
theorem witness_StatusChangesOnlyByFaultDivisionOrReset :
    (step (issue 0x00004260 one one) = .next (next (issue 0x00004260 one one)) ∧
      (next (issue 0x00004260 one one)).status ≠ (issue 0x00004260 one one).status) ∧
    (step (issue 0x00004260 one zero) = .next (next (issue 0x00004260 one zero)) ∧
      (next (issue 0x00004260 one zero)).fcmd ≠ (issue 0x00004260 one zero).fcmd) ∧
    (step (issue 0x00500004 one zero) = .next (next (issue 0x00500004 one zero)) ∧
      (next (issue 0x00500004 one zero)).fcmd ≠ (issue 0x00500004 one zero).fcmd) ∧
    (step (stuck [.assertReset]) = .next (next (stuck [.assertReset])) ∧
      (next (stuck [.assertReset])).status ≠ (stuck [.assertReset]).status) :=
  ⟨⟨step_next (by decide), by decide⟩, ⟨step_next (by decide), by decide⟩, ⟨step_next (by decide), by decide⟩,
    step_next (by decide), by decide⟩

theorem witness_OnlyAccessorsRespond : ∃ t, exec (.getlo 0) (holding one zero) = .next t ∧ t.dout ≠ none :=
  ⟨_, rfl, by decide⟩

theorem witness_DinReachesOnlyConstructors : ¬usesDin (.add 2 0 1) ∧ ∃ t, exec (.add 2 0 1) (holding one one) = .next t :=
  ⟨by rintro ⟨_, h⟩; rcases h with h | h | h <;> (cases h), _, rfl⟩

/-- A compare, a division that completes and one that faults, the high word of the divisor not zero. -/
theorem witness_EntryForms64IgnoreTheHighWord :
    (0 : Reg) ≠ 1 ∧ (∃ t, exec (.ucmp64 2 0 1) (holding one ⟨9, 1⟩) = .next t) ∧
      (∃ t, exec (.sdivmod64 2 3 0 1) (holding one ⟨9, 1⟩) = .next t ∧ t.faulted = false) ∧
      (∃ t, exec (.udiv64 1 0 1) (holding one ⟨9, 0⟩) = .next t ∧ t.faulted = true) :=
  ⟨by decide, ⟨_, rfl⟩, ⟨_, rfl, by decide⟩, ⟨_, rfl, by decide⟩⟩

theorem witness_ConstructorsLoadDin : (issue 0x00000103 one zero).faulted = false := by decide

theorem witness_LdkLoadsTheNamedConstants :
    State.reset.faulted = false ∧ 4 < (5 : BitVec 12).toNat ∧ 4 < (0xFFF : BitVec 12).toNat := by decide

theorem witness_MovCopiesARegister : (holding ⟨5, 7⟩ zero).faulted = false := by decide

theorem witness_AccessorsRespondWithoutWriting :
    (holding one zero).faulted = false ∧ (stuck []).faulted = true ∧ Instr.getc 0 ≠ .rdst := by decide

theorem witness_AddAndSubWrap : (holding maxu one).faulted = false := by decide

theorem witness_IncAndDecWrap : (holding maxu one).faulted = false ∧ (holding maxu one).readV 1 = one := by decide

theorem witness_MulTruncatesAndMulwIsExact : (holding maxu maxu).faulted = false := by decide

theorem witness_SignedReadingOfArithmetic : (holding maxs mins).faulted = false := by decide

/-- One state for each law. -/
theorem witness_ArithmeticLaws :
    (holding one zero).faulted = false ∧ (holding one zero).readV 1 = zero ∧
      (holding maxs maxs).faulted = false ∧ (holding maxs maxs).readV 1 = (holding maxs maxs).readV 0 ∧
      (holding maxu one).faulted = false ∧ (holding maxu one).readV 0 = maxu ∧ (holding maxu one).readV 1 = one ∧
      (holding maxs one).faulted = false ∧ (holding maxs one).readV 0 = maxs ∧ (holding maxs one).readV 1 = one := by
  decide

theorem witness_UnsignedCompareOrdersTheValues : (holding maxu zero).faulted = false := by decide
theorem witness_PredicatesPartitionThePairs : (holding one one).faulted = false := by decide
theorem witness_UnsignedCompare64 : (holding one ⟨9, 1⟩).faulted = false := by decide
theorem witness_SignedCompareOrdersTheValues : (holding mins maxs).faulted = false := by decide
theorem witness_SignedCompare64 : (holding maxu ⟨9, 0xFFFFFFFFFFFFFFFF⟩).faulted = false := by decide
theorem witness_LogicWorksPerWord : (holding maxs mins).faulted = false := by decide

/-- Counts 128 and above 2^64 for the last clause. -/
theorem witness_ShiftsByARegister :
    (holding maxu ⟨0, 128⟩).faulted = false ∧ 128 ≤ ((holding maxu ⟨0, 128⟩).readV 1).uval ∧
      128 ≤ ((holding maxu ⟨1, 0⟩).readV 1).uval ∧ ¬128 ≤ ((holding maxu ⟨0, 127⟩).readV 1).uval := by decide

theorem witness_ShiftsByAnImmediate :
    (holding maxu zero).faulted = false ∧ 128 ≤ (128 : BitVec 12).toNat ∧ 128 ≤ (0xFFF : BitVec 12).toNat ∧
      ¬128 ≤ (127 : BitVec 12).toNat := by decide

/-- The greatest count of each clause, for `v = 2^64`. -/
theorem witness_ShiftLaws : 63 ≤ lzcnt ⟨1, 0⟩ ∧ 64 ≤ tzcnt ⟨1, 0⟩ ∧ 128 ≤ lzcnt zero ∧ 0 ≤ tzcnt maxu := by decide

/-- Zero and non-zero values for the clauses of TZCNT. -/
theorem witness_BitCountsByNumbers :
    (holding mins zero).faulted = false ∧ ((holding mins zero).readV 0).uval ≠ 0 ∧
      ((holding mins zero).readV 1).uval = 0 := by decide

/-- A power of two at the top of the range, and a value that is none. -/
theorem witness_PowerOfTwoTest :
    mins ≠ zero ∧ (∃ k, mins.uval = 2 ^ k) ∧ (⟨0, 3⟩ : Value) ≠ zero ∧ ¬∃ k, (⟨0, 3⟩ : Value).uval = 2 ^ k := by
  refine ⟨by decide, ⟨127, by decide⟩, by decide, ?_⟩
  rintro ⟨k, hk⟩
  have h3 : (3 : Nat) = 2 ^ k := hk
  rcases k with _ | _ | k
  · omega
  · omega
  · have : 2 ^ (k + 2) = 4 * 2 ^ k := by ring
    omega

/-- Indices 127 and 128. -/
theorem witness_BitTestReadsTheIndexedBit :
    (holding maxu ⟨0, 128⟩).faulted = false ∧ 128 ≤ ((holding maxu ⟨0, 128⟩).readV 1).uval ∧
      ¬128 ≤ ((holding maxu ⟨0, 127⟩).readV 1).uval ∧ 128 ≤ (128 : BitVec 12).toNat := by decide

theorem witness_BitSetAndClearChangeOneBit :
    (holding maxs ⟨0, 128⟩).faulted = false ∧ 128 ≤ ((holding maxs ⟨0, 128⟩).readV 1).uval ∧
      ¬128 ≤ ((holding maxs ⟨0, 127⟩).readV 1).uval ∧ 128 ≤ (128 : BitVec 12).toNat := by decide

/-- The lowest and the highest index, each with another bit. -/
theorem witness_SetBitLaws : 0 < 128 ∧ 1 ≠ 0 ∧ 127 < 128 ∧ 128 ≠ 127 := by decide

/-- A divisor of one and of zero, distinct and equal destinations. -/
theorem witness_UnsignedDivision :
    (holding maxu one).faulted = false ∧ (holding maxu one).readV 1 ≠ zero ∧
      (holding maxu zero).faulted = false ∧ (holding maxu zero).readV 1 = zero ∧ (2 : Reg) ≠ 3 := by decide

theorem witness_UnsignedDivision64 :
    (holding maxu ⟨9, 1⟩).faulted = false ∧ ((holding maxu ⟨9, 1⟩).readV 1).lo.toNat ≠ 0 ∧
      (holding maxu ⟨9, 0⟩).faulted = false ∧ ((holding maxu ⟨9, 0⟩).readV 1).lo.toNat = 0 ∧ (2 : Reg) ≠ 3 := by decide

theorem witness_SignedDivision :
    (holding mins maxu).faulted = false ∧ (holding mins maxu).readV 1 ≠ zero ∧
      (holding mins zero).faulted = false ∧ (holding mins zero).readV 1 = zero ∧ (2 : Reg) ≠ 3 := by decide

theorem witness_SignedDivision64 :
    (holding mins ⟨9, 0xFFFFFFFFFFFFFFFF⟩).faulted = false ∧
      ((holding mins ⟨9, 0xFFFFFFFFFFFFFFFF⟩).readV 1).lo.toInt ≠ 0 ∧
      (holding mins ⟨9, 0⟩).faulted = false ∧ ((holding mins ⟨9, 0⟩).readV 1).lo.toInt = 0 ∧ (2 : Reg) ≠ 3 := by decide

/-- A zero divisor, whose division does fault entry with cause 1, and a divisor with only its low word zero. -/
theorem witness_DivideByZeroExactlyForZeroDivisors :
    ((holding one zero).faulted = false ∧ (holding one zero).readV 1 = zero ∧ (2 : Reg) ≠ 3 ∧
      (holding one ⟨9, 0⟩).faulted = false ∧ ((holding one ⟨9, 0⟩).readV 1).lo = 0) ∧
      EntersFault (.udiv 2 0 1) (holding one zero) 1 :=
  ⟨by decide, _, rfl, by decide, by decide, fun k hk => by
    change Nat.testBit 3 k = Nat.testBit 0 k
    rw [Nat.zero_testBit]
    exact Nat.testBit_lt_two_pow (lt_of_lt_of_le (by decide) (Nat.pow_le_pow_right (by decide) hk) : 3 < 2 ^ k),
    rfl, rfl, rfl, rfl, rfl, rfl, rfl⟩

theorem witness_DivisionIdentity : maxu ≠ zero ∧ one ≠ zero := by decide
theorem witness_PolicyRoutinesComputeTheDivision : (⟨1, 1⟩ : Value) ≠ zero := by decide

/-- The three branches of step 7, and the gaps 16 and 17 on either side of the threshold. -/
theorem witness_GapBoundsTheQuotient :
    (⟨0, 3⟩ : Value) ≠ zero ∧ selectPath maxu ⟨0, 3⟩ = .knuth64 ∧
      (⟨1, 1⟩ : Value) ≠ zero ∧ selectPath maxu ⟨1, 1⟩ = .knuth128 ∧
      selectPath ⟨0x10000, 0⟩ ⟨1, 1⟩ = .binary ∧ selectPath ⟨0x20000, 0⟩ ⟨1, 1⟩ = .knuth128 := by decide

/-- The least divisor with its only high word, and the greatest of both. -/
theorem witness_Div128by64Correct :
    (1 : Word) ≠ 0 ∧ (0 : Word) < 1 ∧
      (0xFFFFFFFFFFFFFFFF : Word) ≠ 0 ∧ (0xFFFFFFFFFFFFFFFE : Word) < 0xFFFFFFFFFFFFFFFF := by decide

theorem witness_Knuth128by64Correct : (1 : Word) ≠ 0 ∧ (0xFFFFFFFFFFFFFFFF : Word) ≠ 0 := by decide
theorem witness_Knuth128by128Correct : (⟨1, 0⟩ : Value).hi ≠ 0 ∧ maxu.hi ≠ 0 := by decide
theorem witness_BinaryDivisionCorrect : one ≠ zero ∧ one.uval ≤ one.uval ∧ one.uval ≤ maxu.uval := by decide

/-- `MINS` and its neighbour. -/
theorem witness_SignConverterByNumbers :
    (holding mins maxs).faulted = false ∧ (holding mins maxs).readV 0 = mins ∧ (holding mins maxs).readV 1 ≠ mins := by
  decide

theorem witness_NarrowingPredicatesByNumbers : (holding maxu ⟨0, 0x8000000000000000⟩).faulted = false := by decide

end Sys2Proof.Machine.Tests
end

/-! What one command can do and what one step can do, each said once as an inversion lemma, and from them that a
register changes only as a destination or by RESET (spec 10_state.md R21). -/

namespace Sys2Proof.Machine

/-! The fault state after the ends of a command. -/

@[simp] theorem finish_faulted (rd : Reg) (x : Value) (s : State) : (finish rd x s).faulted = s.faulted := rfl

@[simp] theorem finishBoth_faulted (rd rd2 : Reg) (q r : Value) (s : State) :
    (finishBoth rd rd2 q r s).faulted = s.faulted := rfl

@[simp] theorem setDpath_faulted (p : DivPath) (s : State) : (setDpath p s).faulted = s.faulted :=
  statusFault_withDpath _ _

/-- LDK selects no constant only for a `k` out of range (R44 (c), R50). -/
theorem constantInRange_of_constant_eq_none {k : BitVec 12} (h : constant k = none) : constantInRange k = false := by
  by_contra hr
  have hk : k.toNat ≤ 4 := by simpa [constantInRange] using hr
  unfold constant at h
  interval_cases k.toNat <;> cases h

/-! What a command can do. -/

/-- The next states `exec i s` can answer, each with the guard under which it does: ignored in the fault state (R147), a
response, one destination written, fault entry with cause 2 or 1, a completed division with one or two destinations. -/
inductive CommandEffect (i : Instr) (s : State) : State → Prop where
  | ignored (hf : s.faulted = true) (hi : i ≠ .rdst) : CommandEffect i s (s.respond none)
  | statusRead (hi : i = .rdst) :
      CommandEffect i s (s.respond (some ⟨s.fcmd.setWidth 64, s.status.setWidth 64⟩))
  | responded (d : Value) (hf : s.faulted = false) (hi : responds i) : CommandEffect i s (s.respond (some d))
  | wrote (rd : Reg) (x : Value) (hf : s.faulted = false) (hd : destinations i = [rd]) :
      CommandEffect i s (finish rd x s)
  | raisedIllegal (hf : s.faulted = false) (hw : i.wellFormed = false) :
      CommandEffect i s (raiseFault .illegalCommand s)
  | raisedDivideByZero (hf : s.faulted = false) (hi : isDivision i = true) (hw : i.wellFormed = true) :
      CommandEffect i s (raiseFault .divideByZero s)
  | divided (rd : Reg) (x : Value) (p : DivPath) (hf : s.faulted = false) (hi : isDivision i = true)
      (hd : destinations i = [rd]) : CommandEffect i s (setDpath p (finish rd x s))
  | dividedBoth (rd rd2 : Reg) (q r : Value) (p : DivPath) (hf : s.faulted = false) (hi : isDivision i = true)
      (hd : destinations i = [rd, rd2]) : CommandEffect i s (setDpath p (finishBoth rd rd2 q r s))

section Shapes

variable {i : Instr} {s t : State}

/-- A command of any shape but RDST's: ignored in the fault state, its effect elsewhere (R147). -/
theorem CommandEffect.of_unlessFaulted {e : State → State} (hm : ∀ s, exec i s = unlessFaulted e s)
    (h : exec i s = .next t) (hi : i ≠ .rdst) (he : s.faulted = false → CommandEffect i s (e s)) :
    CommandEffect i s t := by
  rcases unlessFaulted_cases ((hm s).symm.trans h) with ⟨hf, rfl⟩ | ⟨hf, rfl⟩
  · exact .ignored hf hi
  · exact he hf

/-- The shape `V[rd] <- x`. -/
theorem CommandEffect.of_finish {rd : Reg} {x : State → Value}
    (hm : ∀ s, exec i s = unlessFaulted (fun s => finish rd (x s) s) s) (h : exec i s = .next t)
    (hi : i ≠ .rdst) (hd : destinations i = [rd]) : CommandEffect i s t :=
  .of_unlessFaulted hm h hi fun hf => .wrote rd (x s) hf hd

/-- The shape of GETC and GETLO (R52, R53). -/
theorem CommandEffect.of_respond {d : State → Value}
    (hm : ∀ s, exec i s = unlessFaulted (fun s => s.respond (some (d s))) s) (h : exec i s = .next t)
    (hi : i ≠ .rdst) (hr : responds i) : CommandEffect i s t :=
  .of_unlessFaulted hm h hi fun hf => .responded (d s) hf hr

/-- The shape of a division with one destination (R111, R112). -/
theorem CommandEffect.of_finishDivision {rd : Reg} {engine : State → Option DivResult} {pick : DivResult → Value}
    (hm : ∀ s, exec i s = unlessFaulted (fun s => finishDivision (engine s) (fun d => finish rd (pick d)) s) s)
    (h : exec i s = .next t) (hi : i ≠ .rdst) (hv : isDivision i = true) (hw : i.wellFormed = true)
    (hd : destinations i = [rd]) : CommandEffect i s t := by
  refine .of_unlessFaulted hm h hi fun hf => ?_
  rcases finishDivision_cases (engine s) (fun d => finish rd (pick d)) s with ⟨-, he⟩ | ⟨d, -, he⟩
  · exact he ▸ .raisedDivideByZero hf hv hw
  · exact he ▸ .divided rd (pick d) d.path hf hv hd

/-- The shape of a combined divide (R113). -/
theorem CommandEffect.of_combinedDivision {rd rd2 : Reg} {engine : State → Option DivResult}
    (hm : ∀ s, exec i s = unlessFaulted (combinedDivision rd rd2 engine) s) (h : exec i s = .next t)
    (hi : i ≠ .rdst) (hv : isDivision i = true) (hw : i.wellFormed = destinationsDiffer rd rd2)
    (hd : destinations i = [rd, rd2]) : CommandEffect i s t := by
  refine .of_unlessFaulted hm h hi fun hf => ?_
  rcases combinedDivision_cases rd rd2 engine s with ⟨heq, he⟩ | ⟨hne, -, he⟩ | ⟨-, d, -, he⟩
  · exact he ▸ .raisedIllegal hf (by simp [hw, destinationsDiffer, heq])
  · exact he ▸ .raisedDivideByZero hf hv (by simp [hw, destinationsDiffer, hne])
  · exact he ▸ .dividedBoth rd rd2 d.q d.r d.path hf hv hd

end Shapes

/-- LDK writes the constant or raises IllegalCommand (R50). -/
theorem exec_ldk_effect {rd : Reg} {k : BitVec 12} {s t : State} (h : exec (.ldk rd k) s = .next t) :
    CommandEffect (.ldk rd k) s t := by
  refine .of_unlessFaulted (fun _ => rfl) h nofun fun hf => ?_
  cases hc : constant k with
  | some x => exact .wrote rd x hf rfl
  | none => exact .raisedIllegal hf (constantInRange_of_constant_eq_none hc)

/-- The inversion of `exec`: whatever a command answers is one of the effects, by the shape of its meaning. -/
theorem exec_effect {i : Instr} {s t : State} (h : exec i s = .next t) : CommandEffect i s t := by
  cases i with
  | ldk rd k => exact exec_ldk_effect h
  | getc rs1 => exact .of_respond (fun _ => rfl) h nofun (.inl ⟨rs1, rfl⟩)
  | getlo rs1 => exact .of_respond (fun _ => rfl) h nofun (.inr (.inl ⟨rs1, rfl⟩))
  | rdst => cases h; exact .statusRead rfl
  | setc | setu | sets | mov | fitu64 | fits64
  | add | sub | mul | mulw | inc | dec
  | ucmp | eq | ult | ule | ugt | uge | scmp | slt | sle | sgt | sge
  | not | and | or | xor | shl | shr | shli | shri
  | lzcnt | tzcnt | popcnt | bitlen | bit | biti | bset | bclr | bseti | bclri
  | sign | neg | abs | absu
  | ucmp64 | ult64 | ule64 | ugt64 | uge64 | scmp64 | slt64 | sle64 | sgt64 | sge64 =>
    exact .of_finish (fun _ => rfl) h nofun rfl
  | udiv | umod | sdiv | smod | udiv64 | umod64 | sdiv64 | smod64 =>
    exact .of_finishDivision (fun _ => rfl) h nofun rfl rfl rfl
  | udivmod | sdivmod | udivmod64 | sdivmod64 =>
    exact .of_combinedDivision (fun _ => rfl) h nofun rfl rfl rfl

/-- A command writes no register but its destinations, and none when it ends in the fault state (R19, R21). -/
theorem CommandEffect.mem_destinations_of_readV_ne {i : Instr} {s t : State} {r : Reg} (h : CommandEffect i s t)
    (hr : t.readV r ≠ s.readV r) : r ∈ destinations i ∧ t.faulted = false := by
  cases h with
  | ignored | statusRead | responded | raisedIllegal | raisedDivideByZero => exact absurd rfl hr
  | wrote rd x hf hd =>
    have hrd : r = rd := by_contra fun hne => hr (by rw [finish_readV, if_neg hne])
    exact ⟨by simp [hd, hrd], hf⟩
  | divided rd x p hf _ hd =>
    have hrd : r = rd := by_contra fun hne => hr (by rw [setDpath_readV, finish_readV, if_neg hne])
    exact ⟨by simp [hd, hrd], by simpa using hf⟩
  | dividedBoth rd rd2 q x p hf _ hd =>
    have hrd : r = rd ∨ r = rd2 := by
      by_contra! hne
      exact hr (by rw [setDpath_readV, finishBoth_readV, if_neg hne.2, if_neg hne.1])
    exact ⟨by simpa [hd] using hrd, by simpa using hf⟩

/-! What a step can do. -/

/-- The next states `step s` can answer, by the oldest host action (R22, R29, R44, R152, R153). -/
inductive StepEffect (s : State) : State → Prop where
  | idle (hin : s.input = []) : StepEffect s (s.respond none)
  | dropped (w : BitVec 32) (d : Value) (rest : List HostEvent) (hin : s.input = .command w d :: rest)
      (hp : s.resetPin = true) : StepEffect s ({ s with input := rest }.respond none)
  | ran (w : BitVec 32) (d : Value) (rest : List HostEvent) (i : Instr) (t : State)
      (hin : s.input = .command w d :: rest) (hp : s.resetPin = false) (hd : decode w = .ok i)
      (hx : exec i ({ s with input := rest }.sample w d) = .next t) : StepEffect s t
  | ignoredUndecodable (w : BitVec 32) (d : Value) (rest : List HostEvent) (e : DecodeError)
      (hin : s.input = .command w d :: rest) (hp : s.resetPin = false) (hd : decode w = .error e)
      (hf : s.faulted = true) : StepEffect s (({ s with input := rest }.sample w d).respond none)
  | raisedUndecodable (w : BitVec 32) (d : Value) (rest : List HostEvent) (e : DecodeError)
      (hin : s.input = .command w d :: rest) (hp : s.resetPin = false) (hd : decode w = .error e)
      (hf : s.faulted = false) : StepEffect s (raiseFault .illegalCommand ({ s with input := rest }.sample w d))
  | asserted (rest : List HostEvent) (hin : s.input = .assertReset :: rest) :
      StepEffect s (assertResetPin { s with input := rest })
  | released (rest : List HostEvent) (hin : s.input = .releaseReset :: rest) (hp : s.resetPin = true) :
      StepEffect s { resetCore { s with input := rest } with resetPin := false }
  | releasedIdle (rest : List HostEvent) (hin : s.input = .releaseReset :: rest) (hp : s.resetPin = false) :
      StepEffect s ({ s with input := rest }.respond none)

/-- A step at a pending command. -/
theorem transaction_effect {s t : State} {w : BitVec 32} {d : Value} {rest : List HostEvent}
    (hin : s.input = .command w d :: rest) (hw : nextWork s = transaction w d { s with input := rest })
    (h : step s = .next t) : StepEffect s t := by
  rcases transaction_cases w d { s with input := rest } with ⟨hp, he⟩ | ⟨hp, i, hd, he⟩ | ⟨hp, e, hd, he⟩
  · rw [step_of_settled (hw.trans he)] at h
    cases h
    exact .dropped w d rest hin hp
  · rw [step_of_run (hw.trans he)] at h
    exact .ran w d rest i t hin hp hd h
  · rw [step_of_settled (hw.trans he)] at h
    rcases unlessFaulted_cases h with ⟨hf, rfl⟩ | ⟨hf, rfl⟩
    · exact .ignoredUndecodable w d rest e hin hp hd hf
    · exact .raisedUndecodable w d rest e hin hp hd hf

/-- The inversion of `step`. -/
theorem step_effect {s t : State} (h : step s = .next t) : StepEffect s t := by
  rcases nextWork_cases s with ⟨hin, hw⟩ | ⟨w, d, rest, hin, hw⟩ | ⟨rest, hin, hw⟩ | ⟨rest, hin, hw⟩
  · rw [step_of_settled hw] at h
    cases h
    exact .idle hin
  · exact transaction_effect hin hw h
  · rw [step_of_settled hw] at h
    cases h
    exact .asserted rest hin
  · rw [step_of_settled hw, releaseResetPin] at h
    split at h
    case isTrue hp => cases h; exact .released rest hin hp
    case isFalse hp => cases h; exact .releasedIdle rest hin (Bool.eq_false_iff.mpr hp)

/-- Settles O17: of the steps, only a change of RESET and a command that runs can change a register, and a command
changes only its destinations. -/
theorem registersChangeOnlyAsDestinations : Obligations.RegistersChangeOnlyAsDestinations := by
  intro s t r h hr
  cases step_effect h with
  | idle | dropped | ignoredUndecodable | raisedUndecodable | releasedIdle => exact absurd rfl hr
  | asserted rest hin => exact .inl ⟨rest, .inl hin⟩
  | released rest hin hp => exact .inl ⟨rest, .inr ⟨hp, hin⟩⟩
  | ran w d rest i _ hin _ hd hx =>
    exact .inr ⟨w, d, rest, i, hin, hd, (exec_effect hx).mem_destinations_of_readV_ne hr⟩

end Sys2Proof.Machine

/-! Decoding by rows of the opcode map: a row accepts a word exactly under its mask and match, and a word that decodes is the
word of its instruction (spec 30_encoding.md R38, R42, R43). -/

namespace Sys2Proof

/-! The two sides of a format: the test of its unused fields, and the word of its used ones. -/

/-- The fields the format does not use are zero (R38, R43). -/
def Format.unusedZero (f : Format) (w : BitVec 32) : Bool :=
  match f with
  | .Z => immField w = 0 && rd2Field w = 0 && rs2Field w = 0 && rs1Field w = 0 && rdField w = 0
  | .D => immField w = 0 && rd2Field w = 0 && rs2Field w = 0 && rs1Field w = 0
  | .K => rd2Field w = 0 && rs2Field w = 0 && rs1Field w = 0
  | .S => immField w = 0 && rd2Field w = 0 && rs2Field w = 0 && rdField w = 0
  | .U => immField w = 0 && rd2Field w = 0 && rs2Field w = 0
  | .R => immField w = 0 && rd2Field w = 0
  | .I => rd2Field w = 0 && rs2Field w = 0
  | .Q => immField w = 0

/-- The word with the opcode `op`, the fields of `w` the format uses, and zero in the others (R38). -/
def Format.word (f : Format) (w : BitVec 32) (op : BitVec 8) : BitVec 32 :=
  match f with
  | .Z => pack 0 0 0 0 0 op
  | .D => pack 0 0 0 0 (rdField w) op
  | .K => pack (immField w) 0 0 0 (rdField w) op
  | .S => pack 0 0 0 (rs1Field w) 0 op
  | .U => pack 0 0 0 (rs1Field w) (rdField w) op
  | .R => pack 0 0 (rs2Field w) (rs1Field w) (rdField w) op
  | .I => pack (immField w) 0 0 (rs1Field w) (rdField w) op
  | .Q => pack 0 (rd2Field w) (rs2Field w) (rs1Field w) (rdField w) op

/-- A word whose unused fields are zero is the word of its used fields. -/
theorem Format.word_opField {f : Format} {w : BitVec 32} (h : f.unusedZero w = true) : f.word w (opField w) = w := by
  rw [← pack_fields w]
  cases f <;> simp_all [Format.unusedZero, Format.word]

theorem Format.word_and_mask (f : Format) (w : BitVec 32) (op : BitVec 8) :
    f.word w op &&& f.mask = op.setWidth 32 := by
  cases f with
  | Z => exact pack_and_maskZ op
  | D => exact pack_and_maskD _ op
  | K => exact pack_and_maskK _ _ op
  | S => exact pack_and_maskS _ op
  | U => exact pack_and_maskU _ _ op
  | R => exact pack_and_maskR _ _ _ op
  | I => exact pack_and_maskI _ _ _ op
  | Q => exact pack_and_maskQ _ _ _ _ op

/-! Mask and match (R38) is the opcode together with the test of the unused fields. -/

/-- A mask field of ones keeps the immediate. -/
@[simp] theorem imm_and_ones (imm : BitVec 12) : imm &&& 4095#12 = imm := BitVec.and_allOnes

theorem fields_of_eq_pack {w : BitVec 32} {imm rd2 rs2 rs1 rd op} (h : w = pack imm rd2 rs2 rs1 rd op) :
    immField w = imm ∧ rd2Field w = rd2 ∧ rs2Field w = rs2 ∧ rs1Field w = rs1 ∧ rdField w = rd ∧ opField w = op := by
  subst h; simp

/-- A word that passes a mask and match is zero in the fields under the mask, and has the opcode. -/
theorem fields_of_and_pack_eq {w : BitVec 32} {imm : BitVec 12} {rd2 rs2 rs1 rd : Reg} {op : BitVec 8}
    (h : w &&& pack imm rd2 rs2 rs1 rd 0xFF = op.setWidth 32) :
    immField w &&& imm = 0 ∧ regOf (regBits (rd2Field w) &&& regBits rd2) = 0 ∧
      regOf (regBits (rs2Field w) &&& regBits rs2) = 0 ∧ regOf (regBits (rs1Field w) &&& regBits rs1) = 0 ∧
      regOf (regBits (rdField w) &&& regBits rd) = 0 ∧ opField w = op := by
  rw [← pack_fields w, pack_and_pack, and_ones, ← pack_zero_fields] at h
  simpa using fields_of_eq_pack h

theorem Format.of_and_mask {f : Format} {w : BitVec 32} {op : BitVec 8} (h : w &&& f.mask = op.setWidth 32) :
    f.unusedZero w = true ∧ opField w = op := by
  cases f with
  | Z =>
    simpa [Format.unusedZero, and_assoc] using
      fields_of_and_pack_eq (imm := 0xFFF) (rd2 := 7) (rs2 := 7) (rs1 := 7) (rd := 7) h
  | D =>
    simpa [Format.unusedZero, and_assoc] using
      fields_of_and_pack_eq (imm := 0xFFF) (rd2 := 7) (rs2 := 7) (rs1 := 7) (rd := 0) h
  | K =>
    simpa [Format.unusedZero, and_assoc] using
      fields_of_and_pack_eq (imm := 0) (rd2 := 7) (rs2 := 7) (rs1 := 7) (rd := 0) h
  | S =>
    simpa [Format.unusedZero, and_assoc] using
      fields_of_and_pack_eq (imm := 0xFFF) (rd2 := 7) (rs2 := 7) (rs1 := 0) (rd := 7) h
  | U =>
    simpa [Format.unusedZero, and_assoc] using
      fields_of_and_pack_eq (imm := 0xFFF) (rd2 := 7) (rs2 := 7) (rs1 := 0) (rd := 0) h
  | R =>
    simpa [Format.unusedZero, and_assoc] using
      fields_of_and_pack_eq (imm := 0xFFF) (rd2 := 7) (rs2 := 0) (rs1 := 0) (rd := 0) h
  | I =>
    simpa [Format.unusedZero, and_assoc] using
      fields_of_and_pack_eq (imm := 0) (rd2 := 7) (rs2 := 7) (rs1 := 0) (rd := 0) h
  | Q =>
    simpa [Format.unusedZero, and_assoc] using
      fields_of_and_pack_eq (imm := 0xFFF) (rd2 := 0) (rs2 := 0) (rs1 := 0) (rd := 0) h

theorem Format.and_mask_eq_iff {f : Format} {w : BitVec 32} {op : BitVec 8} :
    w &&& f.mask = op.setWidth 32 ↔ f.unusedZero w = true ∧ opField w = op := by
  refine ⟨Format.of_and_mask, ?_⟩
  rintro ⟨hz, rfl⟩
  simpa [Format.word_opField hz] using f.word_and_mask w (opField w)

/-! The decoder and the opcode map. -/

/-- At the opcode of a row the decoder makes the test of the row's format, and what it reads has the row's word (R42, R43). -/
theorem decode_of_row {w : BitVec 32} {f : Format} (hm : (opField w, f) ∈ opcodeMap) :
    ∃ i, decode w = whenZero (f.unusedZero w) i ∧ encode i = f.word w (opField w) := by
  unfold decode
  generalize opField w = op at *
  fin_cases hm
  all_goals exact ⟨_, rfl, rfl⟩

theorem opcode_of_digits {op : BitVec 8} {high low : Nat} (hh : op.toNat / 16 = high) (hl : op.toNat % 16 = low) :
    op = BitVec.ofNat 8 (16 * high + low) :=
  BitVec.eq_of_toNat_eq (by have := op.isLt; rw [BitVec.toNat_ofNat]; omega)

theorem row_of_assigned {op : BitVec 8} {n : Nat} (hop : op = BitVec.ofNat 8 n)
    (ha : (opcodeMap.map Prod.fst).contains (BitVec.ofNat 8 n) = true) : ∃ f, (op, f) ∈ opcodeMap := by
  simpa [hop] using ha

/-- The decoder accepts no opcode but those of the opcode map (R42, R44 (a)). -/
theorem row_of_decode {w : BitVec 32} {i : Instr} (h : decode w = .ok i) : ∃ f, (opField w, f) ∈ opcodeMap := by
  unfold decode at h
  split at h
  case h_12 => cases h
  all_goals
    rename_i hh
    simp only [decodeDigit0, decodeDigit1, decodeDigit2, decodeDigit3, decodeDigit4, decodeDigit5, decodeDigit6,
      decodeDigit7, decodeDigitA, decodeDigitB, decodeDigitE] at h
    split at h
  any_goals cases h
  all_goals
    rename_i hl
    exact row_of_assigned (opcode_of_digits hh hl) rfl

/-- The inversion of `decode`: a word that decodes is the word of what it decodes to, and a row of the opcode map accepts
it. -/
theorem decode_ok {w : BitVec 32} {i : Instr} (h : decode w = .ok i) :
    encode i = w ∧ ∃ f, (opField w, f) ∈ opcodeMap ∧ f.unusedZero w = true := by
  obtain ⟨f, hf⟩ := row_of_decode h
  obtain ⟨j, hj, hw⟩ := decode_of_row hf
  obtain ⟨hz, rfl⟩ := whenZero_ok (hj ▸ h)
  exact ⟨hw.trans (Format.word_opField hz), f, hf, hz⟩

/-! A word packed from a format's fields passes the format's test and gives the fields back (R38). -/

section Packed

variable (imm : BitVec 12) (rd rd2 rs1 rs2 : Reg) (op : BitVec 8)

@[simp] theorem formatZ_pack (i : Instr) : formatZ (pack 0 0 0 0 0 op) i = .ok i := by
  simp [formatZ, whenZero]
@[simp] theorem formatD_pack (mk : Reg → Instr) : formatD (pack 0 0 0 0 rd op) mk = .ok (mk rd) := by
  simp [formatD, whenZero]
@[simp] theorem formatK_pack (mk : Reg → BitVec 12 → Instr) : formatK (pack imm 0 0 0 rd op) mk = .ok (mk rd imm) := by
  simp [formatK, whenZero]
@[simp] theorem formatS_pack (mk : Reg → Instr) : formatS (pack 0 0 0 rs1 0 op) mk = .ok (mk rs1) := by
  simp [formatS, whenZero]
@[simp] theorem formatU_pack (mk : Reg → Reg → Instr) : formatU (pack 0 0 0 rs1 rd op) mk = .ok (mk rd rs1) := by
  simp [formatU, whenZero]
@[simp] theorem formatR_pack (mk : Reg → Reg → Reg → Instr) :
    formatR (pack 0 0 rs2 rs1 rd op) mk = .ok (mk rd rs1 rs2) := by
  simp [formatR, whenZero]
@[simp] theorem formatI_pack (mk : Reg → Reg → BitVec 12 → Instr) :
    formatI (pack imm 0 0 rs1 rd op) mk = .ok (mk rd rs1 imm) := by
  simp [formatI, whenZero]
@[simp] theorem formatQ_pack (mk : Reg → Reg → Reg → Reg → Instr) :
    formatQ (pack 0 rd2 rs2 rs1 rd op) mk = .ok (mk rd rd2 rs1 rs2) := by
  simp [formatQ, whenZero]

end Packed

/-- Decoding undoes encoding: the opcode selects the row, and the row's format gives the operands back. -/
theorem decode_encode (i : Instr) : decode (encode i) = .ok i := by
  cases i
  all_goals rw [encode, decode, opField_pack]
  case rdst => exact formatZ_pack ..
  case setc | setu | sets => exact formatD_pack ..
  case ldk => exact formatK_pack ..
  case getc | getlo => exact formatS_pack ..
  case mov | fitu64 | fits64 | inc | dec | not | lzcnt | tzcnt | popcnt | bitlen | sign | neg | abs | absu =>
    exact formatU_pack ..
  case shli | shri | biti | bseti | bclri => exact formatI_pack ..
  case udivmod | sdivmod | udivmod64 | sdivmod64 => exact formatQ_pack ..
  all_goals exact formatR_pack ..

end Sys2Proof

/-! Illegal words and fault entry: a word is illegal by R44 exactly when it does not decode or decodes to an ill-formed
instruction, and exactly these raise IllegalCommand (spec 30_encoding.md R44, 60_exceptions.md R143, R146). -/

namespace Sys2Proof.Machine

/-! The illegal words. -/

/-- A word that decodes matches a row, so that only the checks R44 (c) and (d) can make it illegal. -/
theorem illegalWord_of_decode {w : BitVec 32} {i : Instr} (h : decode w = .ok i) : illegalWord w = !i.wellFormed := by
  obtain ⟨rfl, f, hf, hz⟩ := decode_ok h
  have hrow : opcodeMap.any (rowMatches (encode i)) = true :=
    List.any_eq_true.mpr ⟨_, hf, beq_iff_eq.mpr (Format.and_mask_eq_iff.mpr ⟨hz, rfl⟩)⟩
  rw [illegalWord, hrow]
  cases i with
  | ldk rd k => simp [encode, Instr.wellFormed, constantInRange, ← decide_not]
  | udivmod rd rd2 | sdivmod rd rd2 | udivmod64 rd rd2 | sdivmod64 rd rd2 =>
    simp [encode, Instr.wellFormed, destinationsDiffer, Bool.beq_eq_decide_eq]
  | _ => simp [encode, Instr.wellFormed]

/-- A word that does not decode matches no row (R44 (a), (b)). -/
theorem illegalWord_of_decode_error {w : BitVec 32} {e : DecodeError} (h : decode w = .error e) :
    illegalWord w = true := by
  have hrow : opcodeMap.any (rowMatches w) = false := by
    by_contra hany
    obtain ⟨⟨op, f⟩, hf, hm⟩ := List.any_eq_true.mp (Bool.not_eq_false _ ▸ hany)
    obtain ⟨hz, rfl⟩ := Format.of_and_mask (beq_iff_eq.mp hm)
    obtain ⟨i, hi, -⟩ := decode_of_row hf
    rw [h, hz] at hi
    cases hi
  rw [illegalWord, hrow]
  rfl

/-! What raises IllegalCommand. -/

theorem constant_eq_none_iff (k : BitVec 12) : constant k = none ↔ constantInRange k = false := by
  refine ⟨constantInRange_of_constant_eq_none, fun h => ?_⟩
  have hk : 4 < k.toNat := by simpa [constantInRange] using h
  unfold constant
  split
  case h_6 => rfl
  all_goals omega

/-- An ill-formed instruction raises IllegalCommand whatever the registers hold (R50, R113, R143). -/
theorem exec_of_illFormed {i : Instr} {s : State} (hw : i.wellFormed = false) (hf : s.faulted = false) :
    exec i s = .next (raiseFault .illegalCommand s) := by
  cases i with
  | ldk rd k =>
    have hk : constant k = none := (constant_eq_none_iff k).mpr hw
    rw [show exec (.ldk rd k) s = execLdk rd k s from rfl, execLdk, unlessFaulted_of_running _ hf, hk]
  | udivmod rd rd2 | sdivmod rd rd2 | udivmod64 rd rd2 | sdivmod64 rd rd2 =>
    have hd : rd = rd2 := by simpa [Instr.wellFormed, destinationsDiffer] using hw
    exact (unlessFaulted_of_running _ hf).trans (congrArg _ (if_pos hd))
  | _ => cases hw

/-- Of the effects of a command only that of an ill-formed one ends in the fault state with cause 2 (R143). -/
theorem CommandEffect.illFormed_of_cause {i : Instr} {s t : State} (h : CommandEffect i s t) (hf : s.faulted = false)
    (ht : t.faulted = true) (hc : statusCause t.status = 2) : i.wellFormed = false := by
  cases h with
  | raisedIllegal _ hw => exact hw
  | raisedDivideByZero => simp [causeCode] at hc
  | ignored | statusRead | responded | wrote | divided | dividedBoth => simp [hf] at ht

/-! Fault entry, field by field (R146). -/

theorem getLsbD_statusWithFault (c : BitVec 3) (st : BitVec 32) {k : Nat} (hk : 4 ≤ k) :
    (statusWithFault c st).getLsbD k = st.getLsbD k := by
  grind [statusWithFault, statusReserved, statusDpath]

theorem raiseFault_entered (c : FaultCause) (s : State) : FaultEntered s (raiseFault c s) (causeCode c) where
  fault := statusFault_withFault _ _
  cause := statusCause_withFault _ _
  otherBits _ hk := getLsbD_statusWithFault _ _ hk
  fcmd := rfl
  dout := rfl
  v := rfl
  resetPin := rfl
  cmd := rfl
  din := rfl
  input := rfl

/-! A step at a command word. -/

/-- With RESET released a step at a command word runs the decoded instruction on the sampled ports, or treats the word as
an illegal command (R29, R44). -/
theorem step_of_command {s : State} {w : BitVec 32} {d : Value} {rest : List HostEvent}
    (hin : s.input = .command w d :: rest) (hp : s.resetPin = false) :
    (∃ i, decode w = .ok i ∧ step s = exec i ({ s with input := rest }.sample w d)) ∨
      (∃ e, decode w = .error e ∧ step s = illegalCommand ({ s with input := rest }.sample w d)) := by
  have hn : nextWork s = transaction w d { s with input := rest } := by rw [nextWork, hin]
  rcases transaction_cases w d { s with input := rest } with ⟨hp', -⟩ | ⟨-, i, hd, he⟩ | ⟨-, e, hd, he⟩
  · exact absurd (hp.symm.trans hp') nofun
  · exact .inl ⟨i, hd, step_of_run (hn.trans he)⟩
  · exact .inr ⟨e, hd, step_of_settled (hn.trans he)⟩

/-- Settles O5, by whether the word decodes: if it does, it is illegal exactly when its instruction is ill formed, which is
when IllegalCommand is raised; if it does not, it is illegal and raises it at once. -/
theorem illegalWordsFaultAndNoOthers : Obligations.IllegalWordsFaultAndNoOthers := by
  intro s w d rest hin hp hf
  rcases step_of_command hin hp with ⟨i, hd, hs⟩ | ⟨e, hd, hs⟩
  · rw [illegalWord_of_decode hd, hs]
    constructor
    · intro hw
      exact ⟨_, exec_of_illFormed (by simpa using hw) hf, raiseFault_entered .illegalCommand _⟩
    · intro hw t ht ⟨htf, hc⟩
      simp [(exec_effect ht).illFormed_of_cause hf htf hc] at hw
  · rw [illegalWord_of_decode_error hd, hs]
    exact ⟨fun _ => ⟨_, unlessFaulted_of_running _ hf, raiseFault_entered .illegalCommand _⟩, nofun⟩

/-! The pseudo-instructions (R46). -/

theorem eqv_eq_decide (a b : Value) : eqv a b = decide (a = b) := by
  rw [Bool.eq_iff_iff]
  cases a; cases b; simp [eqv]

/-- Settles O45: a line is assembled to the word of its expansion, `decode_encode` reads that word back, and EQ's result is
ONE exactly for equal values. -/
theorem pseudoInstructionsAreOneCommand : Obligations.PseudoInstructionsAreOneCommand := by
  intro rd rs1 rs2 imm pins
  refine ⟨rfl, rfl, rfl, rfl, rfl, rfl, rfl, rfl, rfl, rfl, rfl, fun p => decode_encode (expand p), fun a b => ?_⟩
  rw [eqv_eq_decide]
  by_cases h : a = b
  · rw [decide_eq_true h, if_pos h]; rfl
  · rw [decide_eq_false h, if_neg h]; rfl

end Sys2Proof.Machine

/-! Construction, moves and accessors: what each command writes or responds outside the fault state, and that in the fault
state only RDST has an effect (spec 40_construct_move.md R47 to R54, 60_exceptions.md R147). -/

namespace Sys2Proof.Machine

/-! The ends of a command, in the words of the statements. -/

theorem finish_eq_after (rd : Reg) (x : Value) (s : State) : finish rd x s = s.after rd x := rfl

/-- A command `V[rd] <- x` outside the fault state. -/
theorem unlessFaulted_finish (rd : Reg) (x : State → Value) {s : State} (hf : s.faulted = false) :
    unlessFaulted (fun s => finish rd (x s) s) s = .next (s.after rd (x s)) :=
  (unlessFaulted_of_running _ hf).trans (congrArg _ (finish_eq_after ..))

/-- A command whose only effect is a response, outside the fault state. -/
theorem unlessFaulted_respond (d : State → Value) {s : State} (hf : s.faulted = false) :
    unlessFaulted (fun s => s.respond (some (d s))) s = .next (s.answering (d s)) :=
  unlessFaulted_of_running _ hf

/-- Writing back the value a register holds leaves all registers as they are. -/
theorem State.after_readV_self (s : State) (rd : Reg) : s.after rd (s.readV rd) = { s with dout := none } := by
  rw [State.after, State.readV, Vector.set_getElem_self]

/-! The fault state. -/

/-- Every command answers a next state. -/
theorem exec_answers (i : Instr) (s : State) : ∃ t, exec i s = .next t := by
  cases i <;> exact ⟨_, rfl⟩

/-- In the fault state the one effect of a command other than RDST is to be ignored (R147). -/
theorem CommandEffect.eq_of_faulted {i : Instr} {s t : State} (h : CommandEffect i s t) (hf : s.faulted = true)
    (hi : i ≠ .rdst) : t = s.respond none := by
  cases h with
  | ignored => rfl
  | statusRead hr => exact absurd hr hi
  | responded _ hrun | wrote _ _ hrun | raisedIllegal hrun | raisedDivideByZero hrun | divided _ _ _ hrun
  | dividedBoth _ _ _ _ _ hrun => exact absurd (hf.symm.trans hrun) nofun

theorem exec_of_faulted {i : Instr} {s : State} (hf : s.faulted = true) (hi : i ≠ .rdst) :
    exec i s = .next (s.respond none) := by
  obtain ⟨t, ht⟩ := exec_answers i s
  rw [ht, (exec_effect ht).eq_of_faulted hf hi]

/-- Settles O25: the accessors end in a response alone, and `exec_of_faulted` covers every other command in the fault
state. -/
theorem accessorsRespondWithoutWriting : Obligations.AccessorsRespondWithoutWriting := fun rs1 _ =>
  ⟨decode_encode (.getc rs1), decode_encode (.getlo rs1), decode_encode .rdst,
    unlessFaulted_respond fun s => s.readV rs1,
    unlessFaulted_respond fun s => ⟨0, (s.readV rs1).lo⟩,
    rfl,
    fun hf _ hi => exec_of_faulted hf hi⟩

/-! The extensions of a word to 128 bits (R14). -/

theorem uval_zext128 (x : Word) : (zext128 x).uval = x.toNat := by
  simp [zext128, uval_mk]

theorem sext128_of_msb_false {x : Word} (h : x.msb = false) : sext128 x = zext128 x := by
  have hb : x.getLsbD 63 = false := BitVec.msb_eq_getLsbD_last x ▸ h
  rw [sext128, hb]; rfl

theorem sext128_of_msb_true {x : Word} (h : x.msb = true) : sext128 x = ⟨0xFFFFFFFFFFFFFFFF, x⟩ := by
  have hb : x.getLsbD 63 = true := BitVec.msb_eq_getLsbD_last x ▸ h
  rw [sext128, hb]; rfl

/-- Sign extension keeps the signed reading: the ones of the high word are worth `2^128 - 2^64`, so that the `2^128` the
sign bit takes off leaves the `2^64` it takes off in 64 bits. -/
theorem sval_sext128 (x : Word) : (sext128 x).sval = x.toInt := by
  rw [BitVec.toInt_eq_msb_cond]
  cases h : x.msb with
  | false =>
    have hs : (zext128 x).sign = false := (by decide : (0 : Word).getLsbD 63 = false)
    simp [sext128_of_msb_false h, Value.sval, hs, uval_zext128]
  | true =>
    have hs : Value.sign ⟨0xFFFFFFFFFFFFFFFF, x⟩ = true :=
      (by decide : (0xFFFFFFFFFFFFFFFF : Word).getLsbD 63 = true)
    simp only [sext128_of_msb_true h, Value.sval, hs, uval_mk, if_true, BitVec.reduceToNat]
    omega

/-- Settles O22: each of the three writes one value to `V[rd]`, and the readings of the extensions are those of the word. -/
theorem constructorsLoadDin : Obligations.ConstructorsLoadDin := fun rd s hf =>
  ⟨decode_encode (.setc rd), decode_encode (.setu rd), decode_encode (.sets rd),
    unlessFaulted_finish rd (fun s => s.din) hf,
    ⟨zext128 s.din.lo, unlessFaulted_finish rd (fun s => zext128 s.din.lo) hf, rfl, uval_zext128 _⟩,
    ⟨sext128 s.din.lo, unlessFaulted_finish rd (fun s => sext128 s.din.lo) hf, rfl, sval_sext128 _⟩⟩

/-! LDK (R50). -/

theorem exec_ldk_of_constant (rd : Reg) {k : BitVec 12} {x : Value} {s : State} (hk : constant k = some x)
    (hf : s.faulted = false) : exec (.ldk rd k) s = .next (s.after rd x) := by
  rw [show exec (.ldk rd k) s = execLdk rd k s from rfl, execLdk, unlessFaulted_of_running _ hf, hk]
  rfl

/-- An ill-formed instruction does fault entry with cause 2 (R143, R146). -/
theorem entersFault_of_illFormed {i : Instr} {s : State} (hw : i.wellFormed = false) (hf : s.faulted = false) :
    EntersFault i s 2 :=
  ⟨_, exec_of_illFormed hw hf, raiseFault_entered .illegalCommand s⟩

/-- Settles O23: 0 to 4 select a constant each, and LDK with any other `k` is ill formed. -/
theorem ldkLoadsTheNamedConstants : Obligations.LdkLoadsTheNamedConstants := by
  intro rd s hf
  refine ⟨fun k => decode_encode (.ldk rd k), exec_ldk_of_constant rd rfl hf, exec_ldk_of_constant rd rfl hf,
    exec_ldk_of_constant rd rfl hf, exec_ldk_of_constant rd rfl hf, exec_ldk_of_constant rd rfl hf, fun k hk => ?_⟩
  have hw : (Instr.ldk rd k).wellFormed = false := by simpa [Instr.wellFormed, constantInRange] using hk
  exact entersFault_of_illFormed hw hf

/-! MOV (R51). -/

theorem exec_mov (rd rs1 : Reg) {s : State} (hf : s.faulted = false) :
    exec (.mov rd rs1) s = .next (s.after rd (s.readV rs1)) :=
  unary_of_running (fun a => a) rd rs1 hf

/-- Settles O24: MOV writes what its source holds, which for `rd = rs1` is what `V[rd]` held. -/
theorem movCopiesARegister : Obligations.MovCopiesARegister := fun rd rs1 s hf =>
  ⟨decode_encode (.mov rd rs1), exec_mov rd rs1 hf, (exec_mov rd rd hf).trans (congrArg _ (s.after_readV_self rd))⟩

end Sys2Proof.Machine

/-! The adder/subtractor and the multiplier: what each command writes outside the fault state, as an unsigned and as a
signed number, and the laws of its result (spec 41_addsub_mul.md R55 to R62). -/

namespace Sys2Proof.Machine

/-! What each command writes: the result of its datapath unit. -/

section Commands

variable (rd rs1 rs2 : Reg) {s : State} (hf : s.faulted = false)

include hf

theorem exec_add : exec (.add rd rs1 rs2) s = .next (s.after rd (add (s.readV rs1) (s.readV rs2))) :=
  binary_of_running add rd rs1 rs2 hf

theorem exec_sub : exec (.sub rd rs1 rs2) s = .next (s.after rd (sub (s.readV rs1) (s.readV rs2))) :=
  binary_of_running sub rd rs1 rs2 hf

theorem exec_mul : exec (.mul rd rs1 rs2) s = .next (s.after rd (mul (s.readV rs1) (s.readV rs2))) :=
  binary_of_running mul rd rs1 rs2 hf

theorem exec_mulw : exec (.mulw rd rs1 rs2) s = .next (s.after rd (mulw (s.readV rs1) (s.readV rs2))) :=
  binary_of_running mulw rd rs1 rs2 hf

theorem exec_inc : exec (.inc rd rs1) s = .next (s.after rd (inc (s.readV rs1))) :=
  unary_of_running inc rd rs1 hf

theorem exec_dec : exec (.dec rd rs1) s = .next (s.after rd (dec (s.readV rs1))) :=
  unary_of_running dec rd rs1 hf

end Commands

/-! The unsigned results. -/

/-- Settles O26: the carry and borrow chains compute the sum and the difference modulo `2^128`. -/
theorem addAndSubWrap : Obligations.AddAndSubWrap := by
  intro rd rs1 rs2 s hf a b
  refine ⟨decode_encode (.add rd rs1 rs2), decode_encode (.sub rd rs1 rs2), ?_, ?_⟩
  · rw [exec_add rd rs1 rs2 hf, add_eq]
  · rw [exec_sub rd rs1 rs2 hf, sub_eq]

/-- The carry-only fast path of INC agrees with the adder (R58). -/
theorem add_one_eq_inc (a : Value) : add a one = inc a :=
  (add_eq a one).trans (inc_eq a).symm

/-- The borrow-only fast path of DEC agrees with the subtractor (R59). -/
theorem sub_one_eq_dec (a : Value) : sub a one = dec a :=
  (sub_eq a one).trans (dec_eq a).symm

/-- Settles O27: the fast paths compute the sum and the difference with one, which is what the adder and the subtractor
compute of ONE. -/
theorem incAndDecWrap : Obligations.IncAndDecWrap := by
  intro rd rs1 rs2 s hf a
  refine ⟨decode_encode (.inc rd rs1), decode_encode (.dec rd rs1), ?_, ?_, fun hb => ?_, fun hb => ?_⟩
  · rw [exec_inc rd rs1 hf, inc_eq]
  · rw [exec_dec rd rs1 hf, dec_eq]
  · rw [exec_add rd rs1 rs2 hf, exec_inc rd rs1 hf, hb, add_one_eq_inc]
  · rw [exec_sub rd rs1 rs2 hf, exec_dec rd rs1 hf, hb, sub_one_eq_dec]

/-- Settles O28: the low product with the cross terms is the product modulo `2^128`, and the low product alone fits. -/
theorem mulTruncatesAndMulwIsExact : Obligations.MulTruncatesAndMulwIsExact := by
  intro rd rs1 rs2 s hf a b
  refine ⟨decode_encode (.mul rd rs1 rs2), decode_encode (.mulw rd rs1 rs2), ?_,
    mulw a b, exec_mulw rd rs1 rs2 hf, mulw_uval a b⟩
  rw [exec_mul rd rs1 rs2 hf, mul_eq]

/-! The signed results (R57): the signed reading is the balanced remainder of the unsigned one, and taking it commutes with
the ring operations. -/

theorem sval_eq_bmod (a : Value) : a.sval = (a.uval : Int).bmod (2 ^ 128) := by
  have hlt := uval_lt a
  have hmod : (a.uval : Int) % (2 ^ 128 : Nat) = a.uval := Int.emod_eq_of_lt (by omega) (by omega)
  rw [Value.sval, sign_eq, Int.bmod_def, hmod]
  by_cases h : 2 ^ 127 ≤ a.uval
  · rw [decide_eq_true h, if_pos rfl, if_neg (by omega)]; rfl
  · rw [decide_eq_false h, if_neg Bool.false_ne_true, if_pos (by omega)]

theorem sval_u128 (n : Int) : (u128 n).sval = n.bmod (2 ^ 128) := by
  rw [sval_eq_bmod, uval_u128]
  exact Int.emod_bmod n (2 ^ 128)

theorem sval_add (a b : Value) : (add a b).sval = (a.sval + b.sval).bmod (2 ^ 128) := by
  rw [add_eq, sval_u128, sval_eq_bmod a, sval_eq_bmod b, Int.bmod_add_bmod, Int.add_bmod_bmod]

theorem sval_sub (a b : Value) : (sub a b).sval = (a.sval - b.sval).bmod (2 ^ 128) := by
  rw [sub_eq, sval_u128, sval_eq_bmod a, sval_eq_bmod b, Int.bmod_sub_bmod, Int.sub_bmod_bmod]

theorem sval_mul (a b : Value) : (mul a b).sval = (a.sval * b.sval).bmod (2 ^ 128) := by
  rw [mul_eq, sval_u128, sval_eq_bmod a, sval_eq_bmod b, Int.bmod_mul_bmod, Int.mul_bmod_bmod]

theorem sval_one : one.sval = 1 := by decide

/-- Settles O29: each operation computes modulo `2^128`, where the signed and the unsigned readings are congruent, and INC
and DEC are the operations on ONE. -/
theorem signedReadingOfArithmetic : Obligations.SignedReadingOfArithmetic := by
  intro rd rs1 rs2 s hf a b
  refine ⟨⟨_, exec_add rd rs1 rs2 hf, sval_add a b⟩, ⟨_, exec_sub rd rs1 rs2 hf, sval_sub a b⟩,
    ⟨_, exec_mul rd rs1 rs2 hf, sval_mul a b⟩, ⟨_, exec_inc rd rs1 hf, ?_⟩, ⟨_, exec_dec rd rs1 hf, ?_⟩⟩
  · rw [← add_one_eq_inc, sval_add, sval_one]
  · rw [← sub_one_eq_dec, sval_sub, sval_one]

/-! The laws (R62). -/

/-- `u128` of a value's own unsigned reading is the value (R14). -/
theorem u128_uval (a : Value) : u128 a.uval = a :=
  (eq_u128_of_emod (Int.emod_eq_of_lt (Int.natCast_nonneg _) (by exact_mod_cast uval_lt a)).symm).symm

theorem add_zero_eq_self (a : Value) : add a zero = a := by
  rw [add_eq, uval_zero, Nat.cast_zero, Int.add_zero, u128_uval]

theorem mul_one_eq_self (a : Value) : mul a one = a := by
  rw [mul_eq, uval_one, Nat.cast_one, Int.mul_one, u128_uval]

theorem sub_self_eq_zero (a : Value) : sub a a = zero := by
  rw [sub_eq, Int.sub_self]; rfl

/-- The sum of MAXU and ONE leaves the unsigned range. -/
theorem add_maxu_one : add maxu one = zero := by decide

/-- The sum of MAXS and ONE leaves the signed range. -/
theorem add_maxs_one : add maxs one = mins := by decide

/-- Settles O30: each law of the datapath unit is a law of its command. -/
theorem arithmeticLaws : Obligations.ArithmeticLaws := by
  intro rd rs1 rs2 s hf
  simp only [exec_add rd rs1 rs2 hf, exec_sub rd rs1 rs2 hf, exec_mul rd rs1 rs2 hf]
  refine ⟨fun hb => ?_, fun hb => ?_, fun hb => ?_, fun ha hb => ?_, fun ha hb => ?_⟩
  · rw [hb, add_zero_eq_self]
  · rw [hb, mul_one_eq_self]
  · rw [hb, sub_self_eq_zero]
  · rw [ha, hb, add_maxu_one]
  · rw [ha, hb, add_maxs_one]

end Sys2Proof.Machine

/-! The unsigned comparator: the three-way result orders the unsigned readings, and each command of the family writes a
function of that result (spec 42_compare.md R63 to R75). -/

namespace Sys2Proof.Machine

/-! The three-way result. -/

/-- The three-way result over the numbers that are compared: -1, 0 or +1 for less, equal, greater (R63). -/
def threeWay {α : Type} [LinearOrder α] (x y : α) : Int := if x < y then -1 else if y < x then 1 else 0

/-- The comparator's words in lexicographic order are the numbers in order (R64). -/
theorem ucmp_eq_threeWay (a b : Value) : ucmp a b = threeWay a.uval b.uval := ucmp_eq a b

/-- The entry form of the comparator: a high word that is not zero is above every 64-bit number (R71). -/
theorem ucmp64_eq_threeWay (a : Value) (y : Word) : ucmp64 a y = threeWay a.uval y.toNat := by
  have hlo := a.lo.isLt
  have hy := y.isLt
  have hhi : a.hi = 0 ↔ a.hi.toNat = 0 := BitVec.toNat_inj.symm
  simp only [ucmp64, threeWay, Value.uval, ne_eq, hhi, BitVec.lt_def]
  split_ifs <;> omega

section Order

variable {α : Type} [LinearOrder α] (x y : α)

theorem threeWay_neg_iff : threeWay x y < 0 ↔ x < y := by
  unfold threeWay
  split_ifs <;> simp_all

theorem threeWay_pos_iff : 0 < threeWay x y ↔ y < x := by
  unfold threeWay
  split_ifs with hlt <;> simp_all [le_of_lt]

theorem threeWay_nonpos_iff : threeWay x y ≤ 0 ↔ x ≤ y := by
  rw [← not_lt, threeWay_pos_iff, not_lt]

theorem threeWay_nonneg_iff : 0 ≤ threeWay x y ↔ y ≤ x := by
  rw [← not_lt, threeWay_neg_iff, not_lt]

/-! What a command writes for a three-way result (R63): the three-way value itself, or the truth of a predicate of it. -/

theorem u128_threeWay : u128 (threeWay x y) = if x < y then maxu else if y < x then one else zero := by
  unfold threeWay
  split_ifs <;> rfl

theorem truth_threeWay_neg : truth (decide (threeWay x y < 0)) = if x < y then one else zero := by
  simp only [truth, decide_eq_true_eq, threeWay_neg_iff]

theorem truth_threeWay_nonpos : truth (decide (threeWay x y ≤ 0)) = if x ≤ y then one else zero := by
  simp only [truth, decide_eq_true_eq, threeWay_nonpos_iff]

theorem truth_threeWay_pos : truth (decide (threeWay x y > 0)) = if y < x then one else zero := by
  simp only [truth, decide_eq_true_eq, gt_iff_lt, threeWay_pos_iff]

theorem truth_threeWay_nonneg : truth (decide (threeWay x y ≥ 0)) = if y ≤ x then one else zero := by
  simp only [truth, decide_eq_true_eq, ge_iff_le, threeWay_nonneg_iff]

end Order

/-- EQ's result, by the two words (R65). -/
theorem truth_eqv (a b : Value) : truth (eqv a b) = if a.hi = b.hi ∧ a.lo = b.lo then one else zero := by
  simp only [truth, eqv, Bool.and_eq_true, beq_iff_eq]

/-! The commands: what `result` makes of the three-way result is what they write. -/

section Commands

variable (result : Int → Value) (rd rs1 rs2 : Reg) {s : State} {x : Value} (hf : s.faulted = false)

include hf

theorem unsignedCompare_of_running (hx : result (threeWay (s.readV rs1).uval (s.readV rs2).uval) = x) :
    unsignedCompare result rd rs1 rs2 s = .next (s.after rd x) := by
  rw [unsignedCompare, binary_of_running _ rd rs1 rs2 hf, finish_eq_after, ucmp_eq_threeWay, hx]

theorem unsignedCompare64_of_running (hx : result (threeWay (s.readV rs1).uval (s.readV rs2).lo.toNat) = x) :
    unsignedCompare64 result rd rs1 rs2 s = .next (s.after rd x) := by
  rw [unsignedCompare64, binary_of_running _ rd rs1 rs2 hf, finish_eq_after, ucmp64_eq_threeWay, hx]

theorem exec_eq : exec (.eq rd rs1 rs2) s = .next (s.after rd (truth (eqv (s.readV rs1) (s.readV rs2)))) :=
  binary_of_running (fun a b => truth (eqv a b)) rd rs1 rs2 hf

end Commands

/-- Settles O31: UCMP and the four order predicates write functions of the three-way result of the unsigned readings, and
EQ compares the words. -/
theorem unsignedCompareOrdersTheValues : Obligations.UnsignedCompareOrdersTheValues := by
  intro rd rs1 rs2 s hf a b
  refine ⟨decode_encode (.ucmp rd rs1 rs2), decode_encode (.eq rd rs1 rs2), decode_encode (.ult rd rs1 rs2),
    decode_encode (.ule rd rs1 rs2), decode_encode (.ugt rd rs1 rs2), decode_encode (.uge rd rs1 rs2),
    unsignedCompare_of_running u128 rd rs1 rs2 hf (u128_threeWay _ _),
    unsignedCompare_of_running (fun c => truth (decide (c < 0))) rd rs1 rs2 hf (truth_threeWay_neg _ _),
    unsignedCompare_of_running (fun c => truth (decide (c ≤ 0))) rd rs1 rs2 hf (truth_threeWay_nonpos _ _),
    unsignedCompare_of_running (fun c => truth (decide (c > 0))) rd rs1 rs2 hf (truth_threeWay_pos _ _),
    unsignedCompare_of_running (fun c => truth (decide (c ≥ 0))) rd rs1 rs2 hf (truth_threeWay_nonneg _ _), ?_⟩
  rw [exec_eq rd rs1 rs2 hf, truth_eqv]

/-- Settles O33: the entry forms write the same functions of the three-way result of the unsigned reading and the word. -/
theorem unsignedCompare64OrdersTheValues : Obligations.UnsignedCompare64 := by
  intro rd rs1 rs2 s hf a y
  exact ⟨decode_encode (.ucmp64 rd rs1 rs2), decode_encode (.ult64 rd rs1 rs2), decode_encode (.ule64 rd rs1 rs2),
    decode_encode (.ugt64 rd rs1 rs2), decode_encode (.uge64 rd rs1 rs2),
    unsignedCompare64_of_running u128 rd rs1 rs2 hf (u128_threeWay _ _),
    unsignedCompare64_of_running (fun c => truth (decide (c < 0))) rd rs1 rs2 hf (truth_threeWay_neg _ _),
    unsignedCompare64_of_running (fun c => truth (decide (c ≤ 0))) rd rs1 rs2 hf (truth_threeWay_nonpos _ _),
    unsignedCompare64_of_running (fun c => truth (decide (c > 0))) rd rs1 rs2 hf (truth_threeWay_pos _ _),
    unsignedCompare64_of_running (fun c => truth (decide (c ≥ 0))) rd rs1 rs2 hf (truth_threeWay_nonneg _ _)⟩

end Sys2Proof.Machine

/-! Logic, the barrel shifter and the bit index: what each unit makes of the bits of a value, and as a number (spec
43_bitwise_shift.md R76 to R83, R91 to R97). -/

namespace Sys2Proof.Machine

/-! The logic unit as numbers (R76). -/

theorem uval_bitNot (a : Value) : (bitNot a).uval = 2 ^ 128 - 1 - a.uval := by
  have hhi := a.hi.isLt
  have hlo := a.lo.isLt
  rw [bitNot, uval_mk, toNat_not, toNat_not, Value.uval]
  omega

/-- Complementing every bit flips the sign and reflects the signed range. -/
theorem sval_bitNot (a : Value) : (bitNot a).sval = -a.sval - 1 := by
  have hlt := uval_lt a
  simp only [Value.sval, sign_eq, uval_bitNot, decide_eq_true_eq]
  split_ifs <;> omega

/-! The bits of a value. -/

/-- A bit above the high word is clear, whether the range test or the word says so. -/
theorem bit_mk (h l : Word) (i : Nat) : bit ⟨h, l⟩ i = if i < 64 then l.getLsbD i else h.getLsbD (i - 64) := by
  unfold bit
  split_ifs with _ hi
  · rfl
  · rfl
  · exact (BitVec.getLsbD_of_ge h _ (by omega)).symm

/-- The indexed bit is that of the unsigned reading. -/
theorem testBit_uval (a : Value) (i : Nat) : a.uval.testBit i = bit a i := by
  rw [Value.uval, Nat.mul_comm, Nat.testBit_two_pow_mul_add _ a.lo.isLt, bit_mk, BitVec.testBit_toNat,
    BitVec.testBit_toNat]

theorem bit_of_ge (a : Value) {i : Nat} (hi : 128 ≤ i) : bit a i = false := by
  rw [bit, if_neg (by omega), if_neg (by omega)]

theorem value_eq_of_bit {a b : Value} (h : ∀ i, bit a i = bit b i) : a = b :=
  value_eq_of_uval (Nat.eq_of_testBit_eq fun i => by rw [testBit_uval, testBit_uval, h])

theorem bit_zero (i : Nat) : bit zero i = false := by
  rw [← testBit_uval, uval_zero, Nat.zero_testBit]

theorem bit_maxu (i : Nat) : bit maxu i = decide (i < 128) := by
  rw [← testBit_uval, show maxu.uval = 2 ^ 128 - 1 from rfl, Nat.testBit_two_pow_sub_one]

theorem bit_bitAnd (a b : Value) (i : Nat) : bit (bitAnd a b) i = (bit a i && bit b i) := by
  rw [bitAnd, bit_mk, bit_mk a.hi, bit_mk b.hi, BitVec.getLsbD_and, BitVec.getLsbD_and]
  split_ifs <;> rfl

/-! The barrel shifter. -/

/-- SHL moves every bit up by the count, and the bits that leave the 128 are lost (R80). What is left in each of the shifter's
cases is which word of `a` the bit comes from. -/
theorem bit_shl (a : Value) (n i : Nat) : bit (shl a n) i = (decide (i < 128) && (decide (n ≤ i) && bit a (i - n))) := by
  unfold shl
  split_ifs with h0 h1 h2 h3
  · grind [bit_of_ge]
  · rw [bit_mk, bit_mk a.hi]
    simp only [shl64, shr64, BitVec.getLsbD_or, BitVec.getLsbD_shiftLeft, BitVec.getLsbD_ushiftRight]
    grind
  · rw [bit_mk, bit_mk a.hi]
    grind
  · rw [bit_mk, bit_mk a.hi]
    have hindex : i - 64 - (n - 64) = i - n := by omega
    simp only [shl64, BitVec.getLsbD_shiftLeft, hindex]
    grind
  · grind [bit_zero]

/-- SHR moves every bit down by the count, and the vacated bits are clear (R81). -/
theorem bit_shr (a : Value) (n i : Nat) : bit (shr a n) i = bit a (i + n) := by
  unfold shr
  split_ifs with h0 h1 h2 h3
  · rw [h0, Nat.add_zero]
  · rw [bit_mk, bit_mk a.hi]
    simp only [shl64, shr64, BitVec.getLsbD_or, BitVec.getLsbD_shiftLeft, BitVec.getLsbD_ushiftRight]
    grind
  · rw [bit_mk, bit_mk a.hi]
    grind
  · rw [bit_mk, bit_mk a.hi]
    simp only [shr64, BitVec.getLsbD_ushiftRight]
    grind
  · rw [bit_zero, bit_of_ge a (by omega)]

theorem uval_shl (a : Value) (n : Nat) : (shl a n).uval = a.uval * 2 ^ n % 2 ^ 128 := by
  refine Nat.eq_of_testBit_eq fun i => ?_
  rw [testBit_uval, bit_shl, Nat.testBit_mod_two_pow, Nat.testBit_mul_two_pow, testBit_uval]

theorem uval_shr (a : Value) (n : Nat) : (shr a n).uval = a.uval / 2 ^ n := by
  refine Nat.eq_of_testBit_eq fun i => ?_
  rw [testBit_uval, bit_shr, Nat.testBit_div_two_pow, testBit_uval]

theorem shl_eq (a : Value) (n : Nat) : shl a n = u128 ((a.uval * 2 ^ n : Nat) : Int) :=
  eq_u128_of_emod (by rw [uval_shl]; norm_cast)

theorem shr_eq (a : Value) (n : Nat) : shr a n = u128 ((a.uval / 2 ^ n : Nat) : Int) := by
  rw [← uval_shr, u128_uval]

theorem shl_of_ge (a : Value) {n : Nat} (hn : 128 ≤ n) : shl a n = zero := by
  rw [shl, dif_neg (by omega), dif_neg (by omega), if_neg (by omega), dif_neg (by omega)]

theorem shr_of_ge (a : Value) {n : Nat} (hn : 128 ≤ n) : shr a n = zero := by
  rw [shr, dif_neg (by omega), dif_neg (by omega), if_neg (by omega), dif_neg (by omega)]

/-! Bit test. -/

theorem truth_bit (a : Value) (i : Nat) : truth (bit a i) = if a.uval.testBit i then one else zero := by
  rw [truth, testBit_uval]

theorem truth_bit_of_ge (a : Value) {i : Nat} (hi : 128 ≤ i) : truth (bit a i) = zero := by
  rw [bit_of_ge a hi]; rfl

/-! Bit set and bit clear. -/

theorem getLsbD_shl64_one (n : Fin 64) (j : Nat) : (shl64 1 n).getLsbD j = decide (j = n.val) := by
  have hn := n.isLt
  rw [shl64, BitVec.getLsbD_shiftLeft, show (1 : Word) = 1#64 from rfl, BitVec.getLsbD_one]
  grind

theorem getLsbD_not64 (x : Word) (j : Nat) : (not64 x).getLsbD j = (decide (j < 64) && !x.getLsbD j) := by
  rw [not64, show (0xFFFFFFFFFFFFFFFF : Word) = BitVec.allOnes 64 from rfl, BitVec.xor_allOnes, BitVec.getLsbD_not]

theorem bit_bset (a : Value) (i j : Nat) : bit (bset a i) j = (bit a j || (decide (j = i) && decide (i < 128))) := by
  unfold bset
  split_ifs with h0 h1
  · rw [bit_mk, bit_mk a.hi, BitVec.getLsbD_or, getLsbD_shl64_one]
    grind
  · rw [bit_mk, bit_mk a.hi, BitVec.getLsbD_or, getLsbD_shl64_one]
    grind
  · grind

theorem bit_bclr (a : Value) (i j : Nat) : bit (bclr a i) j = (bit a j && !decide (j = i)) := by
  unfold bclr
  split_ifs with h0 h1
  · rw [bit_mk, bit_mk a.hi, BitVec.getLsbD_and, getLsbD_not64, getLsbD_shl64_one]
    grind
  · rw [bit_mk, bit_mk a.hi, BitVec.getLsbD_and, getLsbD_not64, getLsbD_shl64_one]
    grind
  · grind [bit_of_ge]

theorem bset_of_ge (a : Value) {i : Nat} (hi : 128 ≤ i) : bset a i = a := by
  rw [bset, dif_neg (by omega), dif_neg (by omega)]

theorem bclr_of_ge (a : Value) {i : Nat} (hi : 128 ≤ i) : bclr a i = a := by
  rw [bclr, dif_neg (by omega), dif_neg (by omega)]

theorem testBit_bset (a : Value) (i j : Nat) :
    (bset a i).uval.testBit j = (a.uval.testBit j || (decide (j = i) && decide (i < 128))) := by
  rw [testBit_uval, testBit_uval, bit_bset]

theorem testBit_bclr (a : Value) (i j : Nat) :
    (bclr a i).uval.testBit j = (a.uval.testBit j && !decide (j = i)) := by
  rw [testBit_uval, testBit_uval, bit_bclr]

end Sys2Proof.Machine

/-! The bit counts: each is a search for the first set bit from one end, or a count of the set bits, and from them the
power-of-two test and the shift laws (spec 43_bitwise_shift.md R84 to R90). -/

namespace Sys2Proof.Machine

/-! The search for the first set bit. -/

/-- `k` is the least index below `n` at which `p` holds, or `n` when there is none: what a word-wise count of leading or of
trailing zeros looks for. -/
structure FirstSet (p : Nat → Bool) (n k : Nat) : Prop where
  le : k ≤ n
  clear : ∀ j < k, p j = false
  set : k < n → p k = true

theorem firstSet_find (p : Nat → Bool) (n : Nat) : FirstSet p n (((List.range n).find? p).getD n) := by
  cases h : (List.range n).find? p with
  | none =>
    exact ⟨le_rfl, fun j hj => by simpa using List.find?_range_eq_none.1 h j hj, fun hn => absurd hn (lt_irrefl n)⟩
  | some k =>
    obtain ⟨hset, hmem, hclear⟩ := List.find?_range_eq_some.1 h
    exact ⟨(List.mem_range.1 hmem).le, fun j hj => by simpa using hclear j hj, fun _ => hset⟩

section FirstSet

variable {p q : Nat → Bool} {m n k l : Nat}

theorem FirstSet.unique (hk : FirstSet p n k) (hl : FirstSet p n l) : k = l := by
  have hkn := hk.le
  have hln := hl.le
  rcases lt_trichotomy k l with h | h | h
  · exact absurd (hk.set (by omega)) (by simp [hl.clear k h])
  · exact h
  · exact absurd (hl.set (by omega)) (by simp [hk.clear l h])

theorem FirstSet.lt_iff (h : FirstSet p n k) : k < n ↔ ∃ j < n, p j = true := by
  refine ⟨fun hk => ⟨k, hk, h.set hk⟩, ?_⟩
  rintro ⟨j, hj, hset⟩
  by_contra hk
  exact absurd hset (by simp [h.clear j (by omega)])

theorem FirstSet.congr (h : FirstSet p n k) (hpq : ∀ j < n, p j = q j) : FirstSet q n k where
  le := h.le
  clear j hj := hpq j (hj.trans_le h.le) ▸ h.clear j hj
  set hk := hpq k hk ▸ h.set hk

/-- The search goes on in the second word when the first has nothing. -/
theorem FirstSet.append (hk : FirstSet p m k) (hl : FirstSet (fun i => p (m + i)) n l) :
    FirstSet p (m + n) (if k < m then k else m + l) := by
  have hkm := hk.le
  have hln := hl.le
  split_ifs with h
  · exact ⟨by omega, hk.clear, fun _ => hk.set h⟩
  · refine ⟨by omega, fun j hj => ?_, fun hlt => hl.set (by omega)⟩
    rcases Nat.lt_or_ge j m with hjm | hjm
    · exact hk.clear j (by omega)
    · obtain ⟨i, rfl⟩ := Nat.exists_eq_add_of_le hjm
      exact hl.clear i (by omega)

end FirstSet

theorem firstSet_lz64 (x : Word) : FirstSet (fun i => x.getLsbD (63 - i)) 64 (lz64 x) := firstSet_find _ 64

theorem firstSet_tz64 (x : Word) : FirstSet (fun i => x.getLsbD i) 64 (tz64 x) := firstSet_find _ 64

theorem word_ne_zero_iff (x : Word) : x ≠ 0 ↔ ∃ j < 64, x.getLsbD j = true := by
  refine ⟨fun hx => ?_, ?_⟩
  · by_contra h
    push Not at h
    exact hx (BitVec.eq_of_getLsbD_eq fun j hj => by simpa using h j hj)
  · rintro ⟨j, _, hset⟩ rfl
    simp at hset

theorem word_ne_zero_iff_lz64_lt (x : Word) : x ≠ 0 ↔ lz64 x < 64 := by
  rw [word_ne_zero_iff, (firstSet_lz64 x).lt_iff]
  constructor
  · rintro ⟨j, hj, hset⟩
    exact ⟨63 - j, by omega, by rwa [Nat.sub_sub_self (by omega)]⟩
  · rintro ⟨j, _, hset⟩
    exact ⟨63 - j, by omega, hset⟩

theorem word_ne_zero_iff_tz64_lt (x : Word) : x ≠ 0 ↔ tz64 x < 64 :=
  (word_ne_zero_iff x).trans (firstSet_tz64 x).lt_iff.symm

/-- LZCNT is the first set bit from the top (R86). -/
theorem firstSet_lzcnt (a : Value) : FirstSet (fun i => bit a (127 - i)) 128 (lzcnt a) := by
  simp only [lzcnt, word_ne_zero_iff_lz64_lt]
  refine FirstSet.append (m := 64) (n := 64) ((firstSet_lz64 a.hi).congr fun j hj => ?_)
    ((firstSet_lz64 a.lo).congr fun j hj => ?_)
  · rw [bit_mk, if_neg (by omega)]
    congr 1; omega
  · rw [bit_mk, if_pos (by omega)]
    congr 1; omega

/-- TZCNT is the first set bit from the bottom (R87). -/
theorem firstSet_tzcnt (a : Value) : FirstSet (bit a) 128 (tzcnt a) := by
  simp only [tzcnt, word_ne_zero_iff_tz64_lt]
  refine FirstSet.append (m := 64) (n := 64) ((firstSet_tz64 a.lo).congr fun j hj => ?_)
    ((firstSet_tz64 a.hi).congr fun j hj => ?_)
  · rw [bit_mk, if_pos hj]
  · rw [bit_mk, if_neg (by omega), Nat.add_sub_cancel_left]

/-! The counts as numbers: over the unsigned reading. -/

theorem log2_uval_lt {a : Value} (ha : a.uval ≠ 0) : a.uval.log2 < 128 := (Nat.log2_lt ha).2 (uval_lt a)

theorem bit_log2 {a : Value} (ha : a.uval ≠ 0) : bit a a.uval.log2 = true := by
  rw [← testBit_uval, Nat.testBit_log2 ha]

theorem bit_of_log2_lt {a : Value} (ha : a.uval ≠ 0) {i : Nat} (hi : a.uval.log2 < i) : bit a i = false := by
  rw [← testBit_uval, Nat.testBit_lt_two_pow ((Nat.log2_lt ha).1 hi)]

theorem bit_of_uval_eq_zero {a : Value} (ha : a.uval = 0) (i : Nat) : bit a i = false := by
  rw [← testBit_uval, ha, Nat.zero_testBit]

/-- The first set bit from the top is the one of weight `2^log2`. -/
theorem lzcnt_eq (a : Value) : lzcnt a = if a.uval = 0 then 128 else 127 - a.uval.log2 := by
  refine (firstSet_lzcnt a).unique ?_
  split_ifs with ha
  · exact ⟨le_rfl, fun j _ => bit_of_uval_eq_zero ha _, fun h => absurd h (lt_irrefl _)⟩
  · have hlog := log2_uval_lt ha
    refine ⟨by omega, fun j hj => bit_of_log2_lt ha (by omega), fun _ => ?_⟩
    rw [show 127 - (127 - a.uval.log2) = a.uval.log2 by omega, bit_log2 ha]

theorem bitlen_eq_sub_lzcnt (a : Value) : bitlen a = 128 - lzcnt a := by
  have hlo := (firstSet_lz64 a.lo).le
  unfold bitlen lzcnt
  split_ifs <;> omega

theorem bitlen_le (a : Value) : bitlen a ≤ 128 := bitlen_eq_sub_lzcnt a ▸ Nat.sub_le _ _

theorem bitlen_eq (a : Value) : bitlen a = if a.uval = 0 then 0 else a.uval.log2 + 1 := by
  rw [bitlen_eq_sub_lzcnt, lzcnt_eq]
  split_ifs with ha
  · rfl
  · have hlog := log2_uval_lt ha
    omega

theorem tzcnt_of_uval_eq_zero {a : Value} (ha : a.uval = 0) : tzcnt a = 128 :=
  (firstSet_tzcnt a).unique ⟨le_rfl, fun j _ => bit_of_uval_eq_zero ha j, fun h => absurd h (lt_irrefl _)⟩

theorem tzcnt_lt {a : Value} (ha : a.uval ≠ 0) : tzcnt a < 128 :=
  (firstSet_tzcnt a).lt_iff.2 ⟨_, log2_uval_lt ha, bit_log2 ha⟩

theorem bit_tzcnt {a : Value} (ha : a.uval ≠ 0) : bit a (tzcnt a) = true := (firstSet_tzcnt a).set (tzcnt_lt ha)

/-- The lowest set bit is not above the highest. -/
theorem tzcnt_le_log2 {a : Value} (ha : a.uval ≠ 0) : tzcnt a ≤ a.uval.log2 := by
  by_contra h
  exact absurd (bit_tzcnt ha) (by simp [bit_of_log2_lt ha (Nat.lt_of_not_le h)])

/-- POPCNT counts the set bits of both words at their places in the value (R88). -/
theorem popcnt_eq (a : Value) : popcnt a = (List.range 128).countP (bit a) := by
  have hlo : pop64 a.lo = (List.range 64).countP (bit a) :=
    List.countP_congr fun j hj => by rw [bit_mk, if_pos (List.mem_range.1 hj)]
  have hhi : pop64 a.hi = (List.range 64).countP (bit a ∘ (64 + ·)) :=
    List.countP_congr fun j _ => by
      rw [Function.comp_apply, bit_mk, if_neg (by omega), Nat.add_sub_cancel_left]
  rw [popcnt, hlo, hhi, Nat.add_comm, ← List.countP_map, ← List.countP_append, ← List.range_add]

theorem popcnt_le (a : Value) : popcnt a ≤ 128 := by
  rw [popcnt_eq]
  exact List.countP_le_length.trans_eq List.length_range

/-- A count is small enough for the low word (R85). -/
theorem count_of_le {n : Nat} (hn : n ≤ 128) : count n = u128 (n : Int) := by
  refine eq_u128_of_emod ?_
  rw [count, uval_mk, BitVec.toNat_ofNat, zero_toNat]
  omega

/-! The values with one bit set (R90). -/

/-- A power of two has its one bit at the exponent. -/
theorem uval_eq_two_pow_iff (a : Value) (k : Nat) : a.uval = 2 ^ k ↔ ∀ j, bit a j = decide (k = j) := by
  refine ⟨fun h j => ?_, fun h => Nat.eq_of_testBit_eq fun j => ?_⟩
  · rw [← testBit_uval, h, Nat.testBit_two_pow]
  · rw [testBit_uval, h, Nat.testBit_two_pow]

/-- The lowest set bit of a power of two is its one bit. -/
theorem tzcnt_of_uval_eq_two_pow {a : Value} {k : Nat} (h : a.uval = 2 ^ k) : tzcnt a = k := by
  have ha : a.uval ≠ 0 := h ▸ (Nat.two_pow_pos k).ne'
  have hbit := bit_tzcnt ha
  rw [(uval_eq_two_pow_iff a k).1 h, decide_eq_true_eq] at hbit
  exact hbit.symm

/-- One bit is set exactly when the lowest set bit is the highest. -/
theorem isPowTwo_iff_tzcnt_eq_log2 {a : Value} (ha : a.uval ≠ 0) : (∃ k, a.uval = 2 ^ k) ↔ tzcnt a = a.uval.log2 := by
  constructor
  · rintro ⟨k, hk⟩
    rw [tzcnt_of_uval_eq_two_pow hk, hk, Nat.log2_two_pow]
  · refine fun h => ⟨tzcnt a, (uval_eq_two_pow_iff a _).2 fun j => ?_⟩
    rcases lt_trichotomy j (tzcnt a) with hj | rfl | hj
    · rw [(firstSet_tzcnt a).clear j hj, decide_eq_false hj.ne']
    · rw [bit_tzcnt ha, decide_eq_true rfl]
    · rw [bit_of_log2_lt ha (h ▸ hj), decide_eq_false hj.ne]

/-- The set bits as a finite set, which has one element exactly for a power of two. -/
theorem popcnt_eq_one_iff (a : Value) : popcnt a = 1 ↔ ∃ k, a.uval = 2 ^ k := by
  have hcount : popcnt a = Nat.count (fun j => bit a j = true) 128 := by simp [popcnt_eq, Nat.count]
  rw [hcount, Nat.count_eq_card_filter_range, Finset.card_eq_one]
  refine exists_congr fun k => ?_
  have hrange : ∀ j, j < 128 ∧ bit a j = true ↔ bit a j = true := fun j =>
    and_iff_right_of_imp fun h => Nat.lt_of_not_le fun hj => absurd h (by simp [bit_of_ge a hj])
  simp only [uval_eq_two_pow_iff, Finset.ext_iff, Finset.mem_filter, Finset.mem_range, hrange, Finset.mem_singleton]
  exact forall_congr' fun j => (Bool.eq_iff_iff.trans (by rw [decide_eq_true_eq, eq_comm (a := k)])).symm

theorem lzcnt_add_tzcnt_le {a : Value} (ha : a.uval ≠ 0) : lzcnt a + tzcnt a ≤ 127 := by
  have hlog := log2_uval_lt ha
  have hle := tzcnt_le_log2 ha
  rw [lzcnt_eq, if_neg ha]
  omega

theorem lzcnt_add_tzcnt_eq_iff {a : Value} (ha : a.uval ≠ 0) :
    lzcnt a + tzcnt a = 127 ↔ ∃ k, a.uval = 2 ^ k := by
  have hlog := log2_uval_lt ha
  have hle := tzcnt_le_log2 ha
  rw [isPowTwo_iff_tzcnt_eq_log2 ha, lzcnt_eq, if_neg ha]
  omega

/-- Settles O41: with the highest set bit at `h` and the lowest at `l` the sum is `127 - (h - l)`, and one bit is set
exactly when `h = l`. -/
theorem powerOfTwoTest : Obligations.PowerOfTwoTest := by
  refine ⟨fun a hne => ?_, by decide⟩
  have ha : a.uval ≠ 0 := mt (uval_eq_zero_iff a).1 hne
  have hsum := lzcnt_add_tzcnt_eq_iff ha
  refine ⟨hsum, popcnt_eq_one_iff a, ?_, fun h => ?_⟩
  · rintro ⟨k, hk⟩
    rw [tzcnt_of_uval_eq_two_pow hk, hk]
  · exact Nat.le_of_lt_succ (lt_of_le_of_ne (lzcnt_add_tzcnt_le ha) (mt hsum.1 h))

/-! The shift laws (R84): a bit that a shift moves out is one the masks clear, and a count within the leading or the trailing
zeros moves out none. -/

/-- The round trip up and down clears the bits that SHL moved out at the top. -/
theorem bit_shr_shl (a : Value) (n i : Nat) : bit (shr (shl a n) n) i = (decide (i + n < 128) && bit a i) := by
  rw [bit_shr, bit_shl, Nat.add_sub_cancel, decide_eq_true (Nat.le_add_left n i), Bool.true_and]

/-- The round trip down and up clears the bits that SHR moved out at the bottom. -/
theorem bit_shl_shr (a : Value) (n i : Nat) : bit (shl (shr a n) n) i = (decide (n ≤ i) && bit a i) := by
  rw [bit_shl, bit_shr]
  grind [bit_of_ge]

theorem shr_shl_eq_mask (a : Value) (n : Nat) : shr (shl a n) n = bitAnd a (shr maxu n) :=
  value_eq_of_bit fun i => by rw [bit_shr_shl, bit_bitAnd, bit_shr, bit_maxu, Bool.and_comm]

theorem bit_of_lzcnt {a : Value} {i : Nat} (hi : 128 ≤ i + lzcnt a) : bit a i = false := by
  rcases Nat.lt_or_ge i 128 with hlt | hge
  · have hclear := (firstSet_lzcnt a).clear (127 - i) (by omega)
    rwa [show 127 - (127 - i) = i by omega] at hclear
  · exact bit_of_ge a hge

theorem shr_shl_of_le_lzcnt {a : Value} {n : Nat} (hn : n ≤ lzcnt a) : shr (shl a n) n = a := by
  refine value_eq_of_bit fun i => ?_
  rw [bit_shr_shl]
  rcases Nat.lt_or_ge (i + n) 128 with hi | hi
  · rw [decide_eq_true hi, Bool.true_and]
  · rw [bit_of_lzcnt (by omega), Bool.and_false]

theorem shl_shr_of_le_tzcnt {a : Value} {n : Nat} (hn : n ≤ tzcnt a) : shl (shr a n) n = a := by
  refine value_eq_of_bit fun i => ?_
  rw [bit_shl_shr]
  rcases Nat.lt_or_ge i n with hi | hi
  · rw [(firstSet_tzcnt a).clear i (by omega), Bool.and_false]
  · rw [decide_eq_true hi, Bool.true_and]

/-- Settles O39: both round trips are read off bit by bit. -/
theorem shiftLaws : Obligations.ShiftLaws := fun v n =>
  ⟨shr_shl_of_le_lzcnt, shl_shr_of_le_tzcnt, shl_of_ge v le_rfl, shr_shl_eq_mask v n⟩

end Sys2Proof.Machine

/-! The commands of the family: what the unit makes of the operands is what they write (spec 43_bitwise_shift.md R76 to R97). -/

namespace Sys2Proof.Machine

section Commands

variable (rd rs1 rs2 : Reg) (imm : BitVec 12) {s : State} {x : Value} (hf : s.faulted = false)

include hf

theorem unary_eq_after (f : Value → Value) (hx : f (s.readV rs1) = x) : unary f rd rs1 s = .next (s.after rd x) := by
  rw [unary_of_running f rd rs1 hf, finish_eq_after, hx]

theorem binary_eq_after (f : Value → Value → Value) :
    binary f rd rs1 rs2 s = .next (s.after rd (f (s.readV rs1) (s.readV rs2))) := binary_of_running f rd rs1 rs2 hf

theorem counted_eq_after (f : Value → Nat → Value) (hx : f (s.readV rs1) (s.readV rs2).uval = x) :
    counted f rd rs1 rs2 s = .next (s.after rd x) := by
  rw [counted_of_running f rd rs1 rs2 hf, finish_eq_after, hx]

theorem countedImm_eq_after (f : Value → Nat → Value) (hx : f (s.readV rs1) imm.toNat = x) :
    countedImm f rd rs1 imm s = .next (s.after rd x) := by
  rw [countedImm_of_running f rd rs1 imm hf, finish_eq_after, hx]

/-- A count command writes the count as a number (R85). -/
theorem count_eq_after (c : Value → Nat) {n : Nat} (hc : c (s.readV rs1) = n) (hle : c (s.readV rs1) ≤ 128) :
    unary (fun a => count (c a)) rd rs1 s = .next (s.after rd (u128 (n : Int))) :=
  unary_eq_after rd rs1 hf _ (by rw [count_of_le hle, hc])

end Commands

/-- Settles O36: the unit works per word by definition, and NOT has its numeric readings. -/
theorem logicWorksPerWord : Obligations.LogicWorksPerWord := by
  intro rd rs1 rs2 s hf a b
  refine ⟨decode_encode (.not rd rs1), decode_encode (.and rd rs1 rs2), decode_encode (.or rd rs1 rs2),
    decode_encode (.xor rd rs1 rs2), ⟨bitNot a, unary_eq_after rd rs1 hf bitNot rfl, rfl, rfl, ?_, sval_bitNot a⟩,
    binary_eq_after rd rs1 rs2 hf bitAnd, binary_eq_after rd rs1 rs2 hf bitOr, binary_eq_after rd rs1 rs2 hf bitXor⟩
  have hlt := uval_lt a
  rw [uval_bitNot]
  omega

/-- Settles O37: the shifter multiplies and divides by `2^n` at every count. -/
theorem shiftsByARegister : Obligations.ShiftsByARegister := fun rd rs1 rs2 _ hf =>
  ⟨decode_encode (.shl rd rs1 rs2), decode_encode (.shr rd rs1 rs2),
    counted_eq_after rd rs1 rs2 hf shl (shl_eq _ _), counted_eq_after rd rs1 rs2 hf shr (shr_eq _ _), fun hn =>
    ⟨counted_eq_after rd rs1 rs2 hf shl (shl_of_ge _ hn), counted_eq_after rd rs1 rs2 hf shr (shr_of_ge _ hn)⟩⟩

/-- Settles O38: the immediate forms use the same shifter. -/
theorem shiftsByAnImmediate : Obligations.ShiftsByAnImmediate := fun rd rs1 imm _ hf =>
  ⟨decode_encode (.shli rd rs1 imm), decode_encode (.shri rd rs1 imm),
    countedImm_eq_after rd rs1 imm hf shl (shl_eq _ _), countedImm_eq_after rd rs1 imm hf shr (shr_eq _ _), fun hn =>
    ⟨countedImm_eq_after rd rs1 imm hf shl (shl_of_ge _ hn), countedImm_eq_after rd rs1 imm hf shr (shr_of_ge _ hn)⟩⟩

/-- Settles O40: each count is that of the unsigned reading, and at most 128. -/
theorem bitCountsByNumbers : Obligations.BitCountsByNumbers := by
  intro rd rs1 s hf a
  have hpop : popcnt (s.readV rs1) = (List.range 128).countP fun j => a.testBit j := by
    simp only [popcnt_eq, a, testBit_uval]
  refine ⟨decode_encode (.lzcnt rd rs1), decode_encode (.tzcnt rd rs1), decode_encode (.popcnt rd rs1),
    decode_encode (.bitlen rd rs1), count_eq_after rd rs1 hf lzcnt (lzcnt_eq _) (firstSet_lzcnt _).le,
    ⟨_, count_eq_after rd rs1 hf tzcnt rfl (firstSet_tzcnt _).le, tzcnt_of_uval_eq_zero,
      fun ha => ⟨?_, fun j hj => ?_⟩⟩,
    count_eq_after rd rs1 hf popcnt hpop (popcnt_le _), count_eq_after rd rs1 hf bitlen (bitlen_eq _) (bitlen_le _)⟩
  · rw [testBit_uval, bit_tzcnt ha]
  · rw [testBit_uval, (firstSet_tzcnt _).clear j hj]

/-- Settles O42: the bit test reads the bit of the unsigned reading, clear from 128 on. -/
theorem bitTestReadsTheIndexedBit : Obligations.BitTestReadsTheIndexedBit := fun rd rs1 rs2 imm _ hf =>
  ⟨decode_encode (.bit rd rs1 rs2), decode_encode (.biti rd rs1 imm),
    counted_eq_after rd rs1 rs2 hf (fun a i => truth (bit a i)) (truth_bit _ _),
    countedImm_eq_after rd rs1 imm hf (fun a i => truth (bit a i)) (truth_bit _ _),
    fun hi => counted_eq_after rd rs1 rs2 hf (fun a i => truth (bit a i)) (truth_bit_of_ge _ hi),
    fun hi => countedImm_eq_after rd rs1 imm hf (fun a i => truth (bit a i)) (truth_bit_of_ge _ hi)⟩

/-- Settles O43: the register and the immediate forms write what `bset` and `bclr` make of the same index. -/
theorem bitSetAndClearChangeOneBit : Obligations.BitSetAndClearChangeOneBit := fun rd rs1 rs2 imm _ hf =>
  ⟨decode_encode (.bset rd rs1 rs2), decode_encode (.bclr rd rs1 rs2), decode_encode (.bseti rd rs1 imm),
    decode_encode (.bclri rd rs1 imm),
    ⟨_, counted_eq_after rd rs1 rs2 hf bset rfl, testBit_bset _ _, bset_of_ge _⟩,
    ⟨_, counted_eq_after rd rs1 rs2 hf bclr rfl, testBit_bclr _ _, bclr_of_ge _⟩,
    ⟨_, countedImm_eq_after rd rs1 imm hf bset rfl, testBit_bset _ _, bset_of_ge _⟩,
    ⟨_, countedImm_eq_after rd rs1 imm hf bclr rfl, testBit_bclr _ _, bclr_of_ge _⟩⟩

/-- Settles O44: the expansions stand in the table, and the read-back laws are those of the bits of `bset` and `bclr`. -/
theorem setBitLaws : Obligations.SetBitLaws := by
  refine ⟨fun _ _ _ => ⟨rfl, rfl⟩, fun _ _ _ => ⟨rfl, rfl⟩, fun a i hi => ⟨?_, ?_, fun j hj => ⟨?_, ?_⟩⟩⟩
  · rw [bit_bset, decide_eq_true rfl, decide_eq_true hi, Bool.and_self, Bool.or_true]; rfl
  · rw [bit_bclr, decide_eq_true rfl, Bool.not_true, Bool.and_false]; rfl
  · rw [bit_bset, decide_eq_false hj, Bool.false_and, Bool.or_false]
  · rw [bit_bclr, decide_eq_false hj, Bool.not_false, Bool.and_true]

end Sys2Proof.Machine

/-! The selection policy of the division engine by numbers: the guard under which each branch is taken, the path code, and
the gap of step 7 (spec 44_divide.md R100 to R106). -/

namespace Sys2Proof.Machine

/-! The guards of the policy, over the unsigned readings. -/

theorem hi_eq_zero_iff (a : Value) : a.hi = 0 ↔ a.uval < 2 ^ 64 := by
  have hlo := a.lo.isLt
  rw [Value.uval, ← BitVec.toNat_inj, zero_toNat]
  omega

theorem value_eq_iff_uval (a b : Value) : a = b ↔ a.uval = b.uval := ⟨fun h => h ▸ rfl, value_eq_of_uval⟩

theorem uval_ne_zero {a : Value} (h : a ≠ zero) : a.uval ≠ 0 := mt (uval_eq_zero_iff a).1 h

/-- The sum of the zero counts tells a power of two (R90, R103). -/
theorem lzcnt_add_tzcnt_eq_pow2Sum_iff {b : Value} (hb : b ≠ zero) :
    lzcnt b + tzcnt b = Config.pow2Sum ↔ b.uval = 2 ^ b.uval.log2 := by
  rw [Config.pow2Sum, lzcnt_add_tzcnt_eq_iff (uval_ne_zero hb)]
  refine ⟨?_, fun h => ⟨_, h⟩⟩
  rintro ⟨k, hk⟩
  rw [hk, Nat.log2_two_pow]

/-- The gap of step 7 is the difference of the bit lengths (R106). -/
theorem lzcnt_sub_lzcnt {a b : Value} (ha : a ≠ zero) (hb : b ≠ zero) :
    lzcnt b - lzcnt a = a.uval.log2 - b.uval.log2 := by
  have hla := log2_uval_lt (uval_ne_zero ha)
  rw [lzcnt_eq, lzcnt_eq, if_neg (uval_ne_zero ha), if_neg (uval_ne_zero hb)]
  omega

theorem ne_zero_of_uval_lt {a b : Value} (h : b.uval < a.uval) : a ≠ zero := by
  rintro rfl
  exact absurd h (Nat.not_lt_zero _)

/-- What the steps before the seventh leave for it (R106). -/
structure StepSeven (a b : Value) : Prop where
  ne_one : b ≠ one
  wide : ¬(a.hi = 0 ∧ b.hi = 0)
  not_power : ¬∃ k, b.uval = 2 ^ k
  lt : b.uval < a.uval

/-- The guard under which the policy takes each branch (R100 to R106). -/
inductive PathGuard (a b : Value) : DivPath → Prop
  | divisorOne (h : b = one) : PathGuard a b .divisorOne
  | native (ha : a.hi = 0) (hb : b.hi = 0) : PathGuard a b .native
  | powerOfTwo (h : ∃ k, b.uval = 2 ^ k) : PathGuard a b .powerOfTwo
  | less (h : a.uval < b.uval) : PathGuard a b .less
  | equal (h : a = b) : PathGuard a b .equal
  | knuth64 (h : StepSeven a b) (hgap : 16 < lzcnt b - lzcnt a) (hb : b.hi = 0) : PathGuard a b .knuth64
  | knuth128 (h : StepSeven a b) (hgap : 16 < lzcnt b - lzcnt a) (hb : b.hi ≠ 0) : PathGuard a b .knuth128
  | binary (h : StepSeven a b) (hgap : lzcnt b - lzcnt a ≤ 16) : PathGuard a b .binary

/-- The inversion of `selectPath`: the branch taken meets its guard. -/
theorem selectPath_guard (a : Value) {b : Value} (hb : b ≠ zero) : PathGuard a b (selectPath a b) := by
  have hpow := lzcnt_add_tzcnt_eq_iff (uval_ne_zero hb)
  unfold selectPath
  split_ifs with hone hnative hsum hlt heq hgap hhi
  · exact .divisorOne hone
  · exact .native hnative.1 hnative.2
  · exact .powerOfTwo (hpow.1 hsum)
  · exact .less hlt
  · exact .equal heq
  all_goals
    have hgt : b.uval < a.uval := lt_of_le_of_ne (Nat.le_of_not_lt hlt) fun h => heq (value_eq_of_uval h.symm)
    have h7 : StepSeven a b := ⟨hone, hnative, mt hpow.2 hsum, hgt⟩
  · exact .knuth64 h7 hgap hhi
  · exact .knuth128 h7 hgap hhi
  · exact .binary h7 (Nat.le_of_not_lt hgap)

/-- The path code is the numeric policy's on the unsigned readings: the two test the same conditions in the same order. -/
theorem pathCode_selectPath (a : Value) {b : Value} (hb : b ≠ zero) :
    pathCode (selectPath a b) = pathByNumbers a.uval b.uval := by
  simp only [selectPath, pathByNumbers, apply_ite pathCode]
  refine ite_congr (propext (value_eq_iff_uval b one)) (fun _ => rfl) fun _ => ?_
  refine ite_congr (by rw [hi_eq_zero_iff, hi_eq_zero_iff]) (fun _ => rfl) fun _ => ?_
  refine ite_congr (propext (lzcnt_add_tzcnt_eq_pow2Sum_iff hb)) (fun _ => rfl) fun _ => ?_
  refine ite_congr rfl (fun _ => rfl) fun hlt => ?_
  refine ite_congr (propext (value_eq_iff_uval a b)) (fun _ => rfl) fun hne => ?_
  have ha : a ≠ zero := ne_zero_of_uval_lt (lt_of_le_of_ne (Nat.le_of_not_lt hlt) (Ne.symm hne))
  refine ite_congr (by rw [lzcnt_sub_lzcnt ha hb, Config.gapThreshold]) (fun _ => ?_) fun _ => rfl
  exact ite_congr (propext (hi_eq_zero_iff b)) (fun _ => rfl) fun _ => rfl

/-! The gap (R106). -/

theorem log2_le_of_le {x y : Nat} (hy : y ≠ 0) (hyx : y ≤ x) : y.log2 ≤ x.log2 :=
  (Nat.le_log2 (by omega)).2 ((Nat.log2_self_le hy).trans hyx)

/-- Shifted by the difference of the bit lengths, and one more, a number is above the longer one. -/
theorem lt_mul_two_pow_gap {x y : Nat} (hy : y ≠ 0) (hyx : y ≤ x) : x < y * 2 ^ (x.log2 - y.log2 + 1) := by
  have hlog := log2_le_of_le hy hyx
  calc x < 2 ^ (x.log2 + 1) := Nat.lt_log2_self
    _ = 2 ^ y.log2 * 2 ^ (x.log2 - y.log2 + 1) := by rw [← pow_add]; congr 1; omega
    _ ≤ y * 2 ^ (x.log2 - y.log2 + 1) := Nat.mul_le_mul_right _ (Nat.log2_self_le hy)

/-- Shifted by one less than the difference of the bit lengths, a number is not above the longer one. -/
theorem mul_two_pow_gap_sub_one_le {x y : Nat} (hx : x ≠ 0) (hgap : y.log2 < x.log2) :
    y * 2 ^ (x.log2 - y.log2 - 1) ≤ x := by
  calc y * 2 ^ (x.log2 - y.log2 - 1)
      ≤ 2 ^ (y.log2 + 1) * 2 ^ (x.log2 - y.log2 - 1) := Nat.mul_le_mul_right _ Nat.lt_log2_self.le
    _ = 2 ^ x.log2 := by rw [← pow_add]; congr 1; omega
    _ ≤ x := Nat.log2_self_le hx

/-- The bit length of a quotient is the difference of the bit lengths, or one more. -/
theorem log2_div_bounds {x y : Nat} (hy : y ≠ 0) (hyx : y ≤ x) :
    x.log2 - y.log2 ≤ (x / y).log2 + 1 ∧ (x / y).log2 ≤ x.log2 - y.log2 := by
  have hpos := Nat.pos_of_ne_zero hy
  have hq : x / y ≠ 0 := (Nat.div_pos hyx hpos).ne'
  constructor
  · rcases Nat.lt_or_ge y.log2 x.log2 with hgap | hgap
    · rw [← Nat.sub_le_iff_le_add, Nat.le_log2 hq, Nat.le_div_iff_mul_le hpos, Nat.mul_comm]
      exact mul_two_pow_gap_sub_one_le (by omega) hgap
    · omega
  · rw [← Nat.lt_add_one_iff, Nat.log2_lt hq, Nat.div_lt_iff_lt_mul hpos, Nat.mul_comm]
    exact lt_mul_two_pow_gap hy hyx

/-- Not one and no power of two. -/
theorem StepSeven.three_le {a b : Value} (h : StepSeven a b) (hb : b ≠ zero) : 3 ≤ b.uval := by
  have h0 := uval_ne_zero hb
  have h1 : b.uval ≠ 1 := fun e => h.not_power ⟨0, e⟩
  have h2 : b.uval ≠ 2 := fun e => h.not_power ⟨1, e⟩
  omega

/-- A dividend above the divisor has the high word that one of them has. -/
theorem StepSeven.hi_ne_zero {a b : Value} (h : StepSeven a b) : a.hi ≠ 0 := by
  have hwide := h.wide
  have hlt := h.lt
  simp only [ne_eq, hi_eq_zero_iff] at hwide ⊢
  omega

/-- The bounds of R106, for the three branches of step 7 at once. -/
theorem StepSeven.gap_bounds {a b : Value} (h : StepSeven a b) (hb : b ≠ zero) :
    lzcnt a ≤ lzcnt b ∧ lzcnt b - lzcnt a ≤ 126 ∧
      ((a.uval / b.uval).log2 + 1 = lzcnt b - lzcnt a ∨ (a.uval / b.uval).log2 + 1 = lzcnt b - lzcnt a + 1) := by
  have ha : a ≠ zero := ne_zero_of_uval_lt h.lt
  have hla := log2_uval_lt (uval_ne_zero ha)
  have hlb : 1 ≤ b.uval.log2 := (Nat.le_log2 (uval_ne_zero hb)).2 (by have := h.three_le hb; omega)
  have hlog := log2_le_of_le (uval_ne_zero hb) h.lt.le
  have hq := log2_div_bounds (uval_ne_zero hb) h.lt.le
  rw [lzcnt_sub_lzcnt ha hb, lzcnt_eq, lzcnt_eq, if_neg (uval_ne_zero ha), if_neg (uval_ne_zero hb)]
  omega

/-- Settles O53: the guard of the branch taken gives step 7's conditions and the side of the threshold the gap is on. -/
theorem gapBoundsTheQuotient : Obligations.GapBoundsTheQuotient := by
  intro a b hb hp
  have hguard := selectPath_guard a hb
  generalize selectPath a b = p at hguard hp
  have hstep : StepSeven a b ∧ (p = .binary ↔ lzcnt b - lzcnt a ≤ 16) := by
    cases hguard with
    | knuth64 h hgap | knuth128 h hgap => exact ⟨h, iff_of_false nofun (Nat.not_le_of_lt hgap)⟩
    | binary h hgap => exact ⟨h, iff_of_true rfl hgap⟩
    | _ => simp at hp
  obtain ⟨h, hiff⟩ := hstep
  obtain ⟨hlz, hgap, hq⟩ := h.gap_bounds hb
  exact ⟨h.lt, h.three_le hb, h.hi_ne_zero, h.not_power, hlz, hgap, hq, hiff⟩

end Sys2Proof.Machine

/-! The division commands: thin wrappers on an engine, so that what each writes, or that it faults, follows from what the
engine answers (spec 44_divide.md R99, R111 to R123). -/

namespace Sys2Proof.Machine

/-! The end of a completed division, field by field (R24, R111, R113). -/

theorem getLsbD_statusWithDpath (p : BitVec 4) (st : BitVec 32) {k : Nat} (hk : k < 4 ∨ 8 ≤ k) :
    (statusWithDpath p st).getLsbD k = st.getLsbD k := by
  grind [statusWithDpath, statusReserved]

theorem setDpath_divided (p : DivPath) (s : State) (regs : Vector Value 8) :
    Divided s (setDpath p { s with v := regs, dout := none }) regs (pathCode p) where
  v := rfl
  dpath := statusDpath_withDpath _ _
  otherBits _ hk := getLsbD_statusWithDpath _ _ hk
  fcmd := rfl
  dout := rfl
  resetPin := rfl
  cmd := rfl
  din := rfl
  input := rfl

/-! The three commands on one engine. -/

/-- `iq`, `ir` and `iqr` are the commands for the quotient, for the remainder and for both on the engine (R111 to R123). -/
structure OnEngine (engine : State → Option DivResult) (rd rd2 : Reg) (iq ir iqr : Instr) : Prop where
  quotient : ∀ s, exec iq s = unlessFaulted (fun s => finishDivision (engine s) (fun d => finish rd d.q) s) s
  remainder : ∀ s, exec ir s = unlessFaulted (fun s => finishDivision (engine s) (fun d => finish rd d.r) s) s
  combined : ∀ s, exec iqr s = unlessFaulted (combinedDivision rd rd2 engine) s

section OnEngine

variable {engine : State → Option DivResult} {rd rd2 : Reg} {iq ir iqr : Instr} {s : State}

/-- The engine answers: the destinations are written and DPATH is the path (R111 to R113). -/
theorem OnEngine.completes (h : OnEngine engine rd rd2 iq ir iqr) (hf : s.faulted = false) {d : DivResult}
    (hd : engine s = some d) :
    CompletesDivision iq s (s.v.set rd.val d.q) (pathCode d.path) ∧
      CompletesDivision ir s (s.v.set rd.val d.r) (pathCode d.path) ∧
      (rd ≠ rd2 → CompletesDivision iqr s ((s.v.set rd.val d.q).set rd2.val d.r) (pathCode d.path)) := by
  refine ⟨⟨_, ?_, setDpath_divided d.path s _⟩, ⟨_, ?_, setDpath_divided d.path s _⟩,
    fun hne => ⟨_, ?_, setDpath_divided d.path s _⟩⟩
  · rw [h.quotient, unlessFaulted_of_running _ hf, hd]; rfl
  · rw [h.remainder, unlessFaulted_of_running _ hf, hd]; rfl
  · rw [h.combined, unlessFaulted_of_running _ hf, combinedDivision, if_neg hne, hd]; rfl

/-- The engine answers nothing: DivideByZero (R99, R142). -/
theorem OnEngine.dividesByZero (h : OnEngine engine rd rd2 iq ir iqr) (hf : s.faulted = false)
    (hd : engine s = none) :
    EntersFault iq s 1 ∧ EntersFault ir s 1 ∧ (rd ≠ rd2 → EntersFault iqr s 1) := by
  refine ⟨⟨_, ?_, raiseFault_entered .divideByZero s⟩, ⟨_, ?_, raiseFault_entered .divideByZero s⟩,
    fun hne => ⟨_, ?_, raiseFault_entered .divideByZero s⟩⟩
  · rw [h.quotient, unlessFaulted_of_running _ hf, hd]; rfl
  · rw [h.remainder, unlessFaulted_of_running _ hf, hd]; rfl
  · rw [h.combined, unlessFaulted_of_running _ hf, combinedDivision, if_neg hne, hd]; rfl

/-- Equal destinations: IllegalCommand, whatever the engine would answer (R113, R145). -/
theorem OnEngine.illegal (h : OnEngine engine rd rd2 iq ir iqr) (hf : s.faulted = false) (heq : rd = rd2) :
    EntersFault iqr s 2 := by
  refine ⟨_, ?_, raiseFault_entered .illegalCommand s⟩
  rw [h.combined, unlessFaulted_of_running _ hf, combinedDivision, if_pos heq]

end OnEngine

/-! The four engines: each form's divisor is the register, or its low word extended (R41). -/

section Engines

variable (rd rd2 rs1 rs2 : Reg)

theorem udiv_onEngine : OnEngine (fun s => udivmod (s.readV rs1) (s.readV rs2)) rd rd2
    (.udiv rd rs1 rs2) (.umod rd rs1 rs2) (.udivmod rd rd2 rs1 rs2) := ⟨fun _ => rfl, fun _ => rfl, fun _ => rfl⟩

theorem udiv64_onEngine : OnEngine (fun s => udivmod (s.readV rs1) (zext128 (s.readV rs2).lo)) rd rd2
    (.udiv64 rd rs1 rs2) (.umod64 rd rs1 rs2) (.udivmod64 rd rd2 rs1 rs2) :=
  ⟨fun _ => rfl, fun _ => rfl, fun _ => rfl⟩

theorem sdiv_onEngine : OnEngine (fun s => sdivmod (s.readV rs1) (s.readV rs2)) rd rd2
    (.sdiv rd rs1 rs2) (.smod rd rs1 rs2) (.sdivmod rd rd2 rs1 rs2) := ⟨fun _ => rfl, fun _ => rfl, fun _ => rfl⟩

theorem sdiv64_onEngine : OnEngine (fun s => sdivmod (s.readV rs1) (sext128 (s.readV rs2).lo)) rd rd2
    (.sdiv64 rd rs1 rs2) (.smod64 rd rs1 rs2) (.sdivmod64 rd rd2 rs1 rs2) :=
  ⟨fun _ => rfl, fun _ => rfl, fun _ => rfl⟩

end Engines

/-! The unsigned commands. -/

/-- Settles O46: the engine answers by div and mod with the numeric policy's path, and nothing exactly for ZERO. -/
theorem unsignedDivision : Obligations.UnsignedDivision := by
  intro rd rd2 rs1 rs2 s hf a b q r path
  have hon := udiv_onEngine rd rd2 rs1 rs2
  refine ⟨decode_encode (.udiv rd rs1 rs2), decode_encode (.umod rd rs1 rs2), decode_encode (.udivmod rd rd2 rs1 rs2),
    fun hb => ?_, fun hb => hon.dividesByZero hf ((udivmod_eq_none_iff a b).2 hb), hon.illegal hf⟩
  rw [show path = pathCode (selectPath a b) from (pathCode_selectPath a hb).symm]
  exact hon.completes hf (udivmod_of_ne a hb)

theorem zext128_ne_zero {x : Word} (hx : x.toNat ≠ 0) : zext128 x ≠ zero := fun h => hx (by
  rw [← uval_zext128, h, uval_zero])

/-- With a one-word divisor a dividend below the divisor, or equal to it, is one word too, and the native path takes it. -/
theorem pathByNumbers_of_lt (a : Nat) {y : Nat} (hy : y < 2 ^ 64) :
    pathByNumbers a y = 1 ∨ pathByNumbers a y = 2 ∨ pathByNumbers a y = 3 ∨ pathByNumbers a y = 6 ∨
      pathByNumbers a y = 8 := by
  unfold pathByNumbers
  by_cases ha : a < 2 ^ 64
  · rw [if_pos (show a < 2 ^ 64 ∧ y < 2 ^ 64 from ⟨ha, hy⟩)]
    split_ifs <;> simp
  · rw [if_neg (show ¬(a < 2 ^ 64 ∧ y < 2 ^ 64) from fun h => ha h.1), if_neg (show ¬a < y by omega),
      if_neg (show ¬a = y by omega), if_pos hy]
    split_ifs <;> simp

/-- Settles O47: the engine of O46 on the zero-extended low word. -/
theorem unsignedDivision64 : Obligations.UnsignedDivision64 := by
  intro rd rd2 rs1 rs2 s hf a y q r path
  have hon := udiv64_onEngine rd rd2 rs1 rs2
  have hval : (zext128 (s.readV rs2).lo).uval = y := uval_zext128 _
  refine ⟨decode_encode (.udiv64 rd rs1 rs2), decode_encode (.umod64 rd rs1 rs2),
    decode_encode (.udivmod64 rd rd2 rs1 rs2), fun hy => ?_, fun hy => ?_, hon.illegal hf,
    fun _ => pathByNumbers_of_lt a (s.readV rs2).lo.isLt⟩
  · have hb : zext128 (s.readV rs2).lo ≠ zero := zext128_ne_zero hy
    have hd := udivmod_of_ne (s.readV rs1) hb
    have hpath := pathCode_selectPath (s.readV rs1) hb
    rw [hval] at hd hpath
    rw [show path = _ from hpath.symm]
    exact hon.completes hf hd
  · exact hon.dividesByZero hf ((udivmod_eq_none_iff _ _).2 ((uval_eq_zero_iff _).1 (hval.trans hy)))

/-! The signed engine as numbers (R117). -/

theorem uval_magnitude (a : Value) : (magnitude a).uval = a.sval.natAbs := by
  have hlt := uval_lt a
  have hneg := uval_u128 (-(a.uval : Int))
  unfold magnitude Value.sval
  rw [sign_eq]
  split_ifs with h
  · rw [decide_eq_true_eq] at h
    rw [neg_eq]
    omega
  · omega

theorem sval_eq_zero_iff (a : Value) : a.sval = 0 ↔ a = zero := by
  have hlt := uval_lt a
  rw [← uval_eq_zero_iff, Value.sval]
  split_ifs with h
  · rw [sign_eq, decide_eq_true_eq] at h
    omega
  · exact Int.natCast_eq_zero

theorem magnitude_eq_zero_iff (a : Value) : magnitude a = zero ↔ a = zero := by
  rw [← uval_eq_zero_iff, uval_magnitude, Int.natAbs_eq_zero, sval_eq_zero_iff]

/-- The signed reading is the magnitude with the sign. -/
theorem sval_eq_of_sign (a : Value) : a.sval = if a.sign then -(a.sval.natAbs : Int) else a.sval.natAbs := by
  have hlt := uval_lt a
  unfold Value.sval
  split_ifs <;> omega

theorem neg_u128 (n : Int) : neg (u128 n) = u128 (-n) := by
  rw [neg_eq]
  refine eq_u128_of_emod ?_
  rw [uval_u128, uval_u128]
  omega

/-- Truncated division divides the magnitudes; the quotient has the XOR of the signs. -/
theorem tdiv_sval (a b : Value) : a.sval.tdiv b.sval =
    if a.sign ≠ b.sign then -((a.sval.natAbs / b.sval.natAbs : Nat) : Int) else (a.sval.natAbs / b.sval.natAbs : Nat) := by
  conv_lhs => rw [sval_eq_of_sign a, sval_eq_of_sign b]
  rw [Int.ofNat_tdiv]
  cases a.sign <;> cases b.sign <;> simp [Int.neg_tdiv, Int.tdiv_neg]

/-- The remainder of a truncated division is that of the magnitudes with the sign of the dividend. -/
theorem tmod_sval (a b : Value) : a.sval.tmod b.sval =
    if a.sign then -((a.sval.natAbs % b.sval.natAbs : Nat) : Int) else (a.sval.natAbs % b.sval.natAbs : Nat) := by
  conv_lhs => rw [sval_eq_of_sign a, sval_eq_of_sign b]
  rw [Int.ofNat_tmod]
  cases a.sign <;> cases b.sign <;> simp [Int.neg_tmod, Int.tmod_neg]

/-- The signed engine computes the truncated division, modulo `2^128`, by the path of the magnitudes (R117). -/
theorem sdivmod_of_ne (a : Value) {b : Value} (hb : b ≠ zero) :
    sdivmod a b = some ⟨u128 (a.sval.tdiv b.sval), u128 (a.sval.tmod b.sval), selectPath (magnitude a) (magnitude b)⟩ := by
  have hm : magnitude b ≠ zero := mt (magnitude_eq_zero_iff b).1 hb
  rw [sdivmod, udivmod_of_ne _ hm, uval_magnitude, uval_magnitude, tdiv_sval, tmod_sval, Option.map_some,
    apply_ite u128, apply_ite u128, neg_u128, neg_u128]

theorem sdivmod_eq_none_iff (a b : Value) : sdivmod a b = none ↔ b = zero := by
  rw [sdivmod, Option.map_eq_none_iff, udivmod_eq_none_iff, magnitude_eq_zero_iff]

/-- The path of the magnitudes by numbers (R117). -/
theorem pathCode_selectPath_magnitude (a : Value) {b : Value} (hb : b ≠ zero) :
    pathCode (selectPath (magnitude a) (magnitude b)) = pathByNumbers a.sval.natAbs b.sval.natAbs := by
  rw [pathCode_selectPath _ (mt (magnitude_eq_zero_iff b).1 hb), uval_magnitude, uval_magnitude]

/-! The signed commands. -/

/-- Settles O48: the signed engine answers by truncated division, and nothing exactly for ZERO. -/
theorem signedDivision : Obligations.SignedDivision := by
  intro rd rd2 rs1 rs2 s hf a b q r path
  have hon := sdiv_onEngine rd rd2 rs1 rs2
  refine ⟨decode_encode (.sdiv rd rs1 rs2), decode_encode (.smod rd rs1 rs2), decode_encode (.sdivmod rd rd2 rs1 rs2),
    fun hb => ?_, fun hb => hon.dividesByZero hf ((sdivmod_eq_none_iff a b).2 hb), hon.illegal hf⟩
  rw [show path = _ from (pathCode_selectPath_magnitude a hb).symm]
  exact hon.completes hf (sdivmod_of_ne a hb)

/-- Settles O49: the engine of O48 on the sign-extended low word. -/
theorem signedDivision64 : Obligations.SignedDivision64 := by
  intro rd rd2 rs1 rs2 s hf a y q r path
  have hon := sdiv64_onEngine rd rd2 rs1 rs2
  have hval : (sext128 (s.readV rs2).lo).sval = y := sval_sext128 _
  have hzero : sext128 (s.readV rs2).lo = zero ↔ y = 0 := hval ▸ (sval_eq_zero_iff _).symm
  refine ⟨decode_encode (.sdiv64 rd rs1 rs2), decode_encode (.smod64 rd rs1 rs2),
    decode_encode (.sdivmod64 rd rd2 rs1 rs2), fun hy => ?_, fun hy => ?_, hon.illegal hf⟩
  · have hb := mt hzero.1 hy
    have hd := sdivmod_of_ne (s.readV rs1) hb
    have hpath := pathCode_selectPath_magnitude (s.readV rs1) hb
    rw [hval] at hd hpath
    rw [show path = _ from hpath.symm]
    exact hon.completes hf hd
  · exact hon.dividesByZero hf ((sdivmod_eq_none_iff _ _).2 (hzero.2 hy))

end Sys2Proof.Machine

/-! The routines of the branches compute the exact division (spec 44_divide.md R98, R101 to R110): the two estimated digits
of Algorithm D, the one-word and the two-word Knuth routines, the binary loop, and the shortcuts. -/

namespace Sys2Proof.Machine

/-! Exact results of the datapath: no wrap occurs where the routines use it. -/

theorem uval_u128_of_lt {n : Nat} (h : n < 2 ^ 128) : (u128 (n : Int)).uval = n := by
  have := uval_u128 n
  omega

theorem uval_sub_of_le {a b : Value} (h : b.uval ≤ a.uval) : (sub a b).uval = a.uval - b.uval := by
  rw [sub_eq, ← Int.ofNat_sub h, uval_u128_of_lt (lt_of_le_of_lt (Nat.sub_le _ _) (uval_lt a))]

theorem uval_mul_of_lt {a b : Value} (h : a.uval * b.uval < 2 ^ 128) : (mul a b).uval = a.uval * b.uval := by
  rw [mul_eq, ← Nat.cast_mul, uval_u128_of_lt h]

theorem uval_dec_of_pos {a : Value} (h : 0 < a.uval) : (dec a).uval = a.uval - 1 := by
  rw [← sub_one_eq_dec, uval_sub_of_le (b := one) h, uval_one]

theorem uval_shl_of_lt {a : Value} {n : Nat} (h : a.uval * 2 ^ n < 2 ^ 128) : (shl a n).uval = a.uval * 2 ^ n := by
  rw [uval_shl, Nat.mod_eq_of_lt h]

theorem uval_bitAnd (a b : Value) : (bitAnd a b).uval = a.uval &&& b.uval :=
  Nat.eq_of_testBit_eq fun i => by
    rw [Nat.testBit_and, testBit_uval, testBit_uval, testBit_uval, bit_bitAnd]

theorem bit_bitOr (a b : Value) (i : Nat) : bit (bitOr a b) i = (bit a i || bit b i) := by
  rw [bitOr, bit_mk, bit_mk a.hi, bit_mk b.hi, BitVec.getLsbD_or, BitVec.getLsbD_or]
  split_ifs <;> rfl

theorem uval_bitOr (a b : Value) : (bitOr a b).uval = a.uval ||| b.uval :=
  Nat.eq_of_testBit_eq fun i => by
    rw [Nat.testBit_or, testBit_uval, testBit_uval, testBit_uval, bit_bitOr]

theorem uval_eq (a : Value) : a.uval = a.hi.toNat * 2 ^ 64 + a.lo.toNat := rfl

theorem toNat_ne_zero {x : Word} (h : x ≠ 0) : x.toNat ≠ 0 := fun h0 => h (BitVec.eq_of_toNat_eq h0)

theorem uval_low (x : Word) : Value.uval ⟨0, x⟩ = x.toNat := uval_zext128 x

theorem uval_eq_lo_toNat {a : Value} (h : a.hi = 0) : a.uval = a.lo.toNat := by
  rw [uval_eq, h, zero_toNat, Nat.zero_mul, Nat.zero_add]

/-! Long division by digits: two digits of base `β`, the remainder of the first carried into the second. -/

theorem long_division {v : Nat} (hv : 0 < v) (β x y : Nat) :
    (x * β + y) / v = x / v * β + (x % v * β + y) / v ∧ (x * β + y) % v = (x % v * β + y) % v := by
  have h : x * β + y = v * (x / v * β) + (x % v * β + y) := by
    conv_lhs => rw [← Nat.div_add_mod x v]
    ring
  exact ⟨by rw [h, Nat.mul_add_div hv], by rw [h, Nat.mul_add_mod]⟩

/-- A remainder carried in leaves a digit below the base. -/
theorem digit_lt {β v x y : Nat} (hx : x < v) (hy : y < β) : (x * β + y) / v < β := by
  rw [Nat.div_lt_iff_lt_mul (by omega)]
  calc x * β + y < (x + 1) * β := by rw [Nat.succ_mul]; omega
    _ ≤ v * β := Nat.mul_le_mul_right β hx
    _ = β * v := Nat.mul_comm _ _

/-! One quotient digit (R107). -/

section Digit

variable {vn1 vn0 un next : Nat}

/-- The comparison of partial products is exact: it finds that an estimate is above the true digit. -/
theorem quotient_lt_iff_partial_products {q rhat : Nat} (hv : 0 < vn1) (hun : q * vn1 + rhat = un) :
    (un * 2 ^ 32 + next) / (vn1 * 2 ^ 32 + vn0) < q ↔ rhat * 2 ^ 32 + next < q * vn0 := by
  have hleft : un * 2 ^ 32 + next = q * vn1 * 2 ^ 32 + (rhat * 2 ^ 32 + next) := by rw [← hun]; ring
  have hright : q * (vn1 * 2 ^ 32 + vn0) = q * vn1 * 2 ^ 32 + q * vn0 := by ring
  rw [Nat.div_lt_iff_lt_mul (by omega), hleft, hright, Nat.add_lt_add_iff_left]

/-- One taken off an estimate goes back into the partial remainder. -/
theorem estimate_pred {q rhat : Nat} (hq : 0 < q) (hun : q * vn1 + rhat = un) :
    (q - 1) * vn1 + (rhat + vn1) = un := by
  have hle : vn1 ≤ q * vn1 := Nat.le_mul_of_pos_left _ hq
  rw [Nat.sub_mul, one_mul]
  omega

/-- The correction loop ends at the true digit `t`: each round takes one off an estimate above it, and once the partial
remainder has two digits the comparison cannot find another. -/
theorem correctDigit_eq {t : Nat} (hv : 0 < vn1) (hvn0 : vn0 < 2 ^ 32)
    (ht : (un * 2 ^ 32 + next) / (vn1 * 2 ^ 32 + vn0) = t) (htB : t < 2 ^ 32) {fuel q rhat : Nat} (hle : t ≤ q)
    (hfuel : q ≤ t + fuel) (hqB : q ≤ 2 ^ 32 + 1) (hun : q * vn1 + rhat = un) :
    correctDigit vn1 vn0 next fuel q rhat = t := by
  induction fuel generalizing q rhat with
  | zero => exact Nat.le_antisymm hfuel hle
  | succ fuel ih =>
    have htest : 2 ^ 32 ≤ q ∨ rhat * 2 ^ 32 + next < q * vn0 ↔ t < q := by
      rw [← quotient_lt_iff_partial_products hv hun, ht]
      omega
    simp only [correctDigit, htest]
    split_ifs with hlt hrhat
    · have hprod : (q - 1) * vn0 ≤ 2 ^ 32 * (2 ^ 32 - 1) := Nat.mul_le_mul (by omega) (by omega)
      have hexact : ¬t < q - 1 := fun h => by
        rw [← ht, quotient_lt_iff_partial_products hv (estimate_pred (by omega) hun)] at h
        omega
      omega
    · exact ih (by omega) (by omega) (by omega) (estimate_pred (by omega) hun)
    · omega

/-- Knuth's bounds: with a normalised divisor the estimate by its first digit is the true digit or at most two more. -/
theorem estimate_bounds (hv : 2 ^ 31 ≤ vn1) (hvn0 : vn0 < 2 ^ 32) (hnext : next < 2 ^ 32)
    {t : Nat} (ht : (un * 2 ^ 32 + next) / (vn1 * 2 ^ 32 + vn0) = t) (htB : t < 2 ^ 32) :
    t ≤ un / vn1 ∧ un / vn1 ≤ t + 2 := by
  have hpos : 0 < vn1 * 2 ^ 32 + vn0 := by omega
  have hlow : t * (vn1 * 2 ^ 32 + vn0) ≤ un * 2 ^ 32 + next := ht ▸ Nat.div_mul_le_self _ _
  have hhigh : un * 2 ^ 32 + next < (t + 1) * (vn1 * 2 ^ 32 + vn0) :=
    (Nat.div_lt_iff_lt_mul hpos).1 (by omega)
  have hprod : (t + 1) * vn0 ≤ 2 ^ 32 * (2 ^ 32 - 1) := Nat.mul_le_mul (by omega) (by omega)
  rw [Nat.mul_add, ← Nat.mul_assoc] at hlow hhigh
  constructor
  · rw [Nat.le_div_iff_mul_le (by omega)]
    omega
  · rw [← Nat.lt_add_one_iff, Nat.div_lt_iff_lt_mul (by omega)]
    have hthree : (t + 2 + 1) * vn1 = (t + 1) * vn1 + 2 * vn1 := by ring
    omega

/-- A normalised divisor gives the exact digit (R107). -/
theorem quotientDigit_eq (hv : 2 ^ 31 ≤ vn1) (hvn0 : vn0 < 2 ^ 32) (hnext : next < 2 ^ 32)
    (hun : un < vn1 * 2 ^ 32 + vn0) :
    quotientDigit vn1 vn0 un next = (un * 2 ^ 32 + next) / (vn1 * 2 ^ 32 + vn0) := by
  have htB := digit_lt hun hnext
  obtain ⟨hle, hfuel⟩ := estimate_bounds hv hvn0 hnext rfl htB
  refine correctDigit_eq (by omega) hvn0 rfl htB hle hfuel (by omega) ?_
  have := Nat.div_mul_le_self un vn1
  omega

end Digit

/-! The normalisation of a divisor (R107). -/

theorem lz64_eq {x : Word} (hx : x ≠ 0) : lz64 x = 63 - x.toNat.log2 := by
  have hx0 := toNat_ne_zero hx
  have hlog : x.toNat.log2 < 64 := (Nat.log2_lt hx0).2 x.isLt
  have h := lzcnt_eq (zext128 x)
  rw [uval_zext128, if_neg hx0, show lzcnt (zext128 x) = 64 + lz64 x from rfl] at h
  omega

/-- Shifting the highest set bit of a number up to bit `n`. -/
theorem shift_to_top {x n : Nat} (hx : x ≠ 0) (hn : x.log2 ≤ n) :
    2 ^ n ≤ x * 2 ^ (n - x.log2) ∧ x * 2 ^ (n - x.log2) < 2 ^ (n + 1) := by
  constructor
  · calc 2 ^ n = 2 ^ x.log2 * 2 ^ (n - x.log2) := by rw [← pow_add, Nat.add_sub_cancel' hn]
      _ ≤ _ := Nat.mul_le_mul_right _ (Nat.log2_self_le hx)
  · calc _ < 2 ^ (x.log2 + 1) * 2 ^ (n - x.log2) := Nat.mul_lt_mul_of_pos_right Nat.lt_log2_self (Nat.two_pow_pos _)
      _ = 2 ^ (n + 1) := by rw [← pow_add]; congr 1; omega

/-- Shifted left by its leading zeros a word has its top bit set and loses none. -/
theorem word_shift_to_top {x : Word} (hx : x ≠ 0) :
    2 ^ 63 ≤ x.toNat * 2 ^ lz64 x ∧ x.toNat * 2 ^ lz64 x < 2 ^ 64 := by
  have hx0 := toNat_ne_zero hx
  rw [lz64_eq hx]
  exact shift_to_top hx0 (Nat.le_of_lt_succ ((Nat.log2_lt hx0).2 x.isLt))

/-- The same of a value with a high word, whose leading zeros are those of the high word. -/
theorem value_shift_to_top {b : Value} (hb : b.hi ≠ 0) :
    2 ^ 127 ≤ b.uval * 2 ^ lz64 b.hi ∧ b.uval * 2 ^ lz64 b.hi < 2 ^ 128 := by
  have hb0 : b.uval ≠ 0 := by
    rw [ne_eq, hi_eq_zero_iff] at hb
    omega
  rw [show lz64 b.hi = lzcnt b from (if_pos hb).symm, lzcnt_eq, if_neg hb0]
  exact shift_to_top hb0 (Nat.le_of_lt_succ (log2_uval_lt hb0))

/-! The 128-by-64 step (R107). -/

/-- The two quotient digits and the remainder of `u` by a normalised divisor: the middle of the 128-by-64 step. -/
def normalisedDivision (u : Value) (vn : Word) : Word × Word :=
  let q1 := quotientDigit (vn.toNat / 2 ^ 32) (vn.toNat % 2 ^ 32) u.hi.toNat (u.lo.toNat / 2 ^ 32)
  let un21 := ((((u.hi.toNat * 2 ^ 32 + u.lo.toNat / 2 ^ 32 : Nat) : Int) - (q1 * vn.toNat : Nat)) % 2 ^ 64).toNat
  let q0 := quotientDigit (vn.toNat / 2 ^ 32) (vn.toNat % 2 ^ 32) un21 (u.lo.toNat % 2 ^ 32)
  (BitVec.ofNat 64 (q1 * 2 ^ 32 + q0),
    BitVec.ofInt 64 (((un21 * 2 ^ 32 + u.lo.toNat % 2 ^ 32 : Nat) : Int) - (q0 * vn.toNat : Nat)))

/-- The 128-by-64 step normalises both operands, divides, and shifts the remainder back. -/
theorem div128by64_eq (u1 u0 : Word) {v : Word} (hs : lz64 v < 64) :
    div128by64 u1 u0 v =
      ((normalisedDivision (shl ⟨u1, u0⟩ (lz64 v)) (v <<< lz64 v)).1,
        (normalisedDivision (shl ⟨u1, u0⟩ (lz64 v)) (v <<< lz64 v)).2 >>> lz64 v) := by
  rcases Nat.eq_zero_or_pos (lz64 v) with h0 | hpos
  · simp [div128by64, normalisedDivision, h0, shl]
  · simp [div128by64, normalisedDivision, hpos, hs, shl, hpos.ne', shl64, shr64]

theorem quotientDigit_of_word {vn : Word} (hv : 2 ^ 63 ≤ vn.toNat) {un next : Nat} (hun : un < vn.toNat)
    (hnext : next < 2 ^ 32) :
    quotientDigit (vn.toNat / 2 ^ 32) (vn.toNat % 2 ^ 32) un next = (un * 2 ^ 32 + next) / vn.toNat := by
  have hsplit := Nat.div_add_mod' vn.toNat (2 ^ 32)
  rw [quotientDigit_eq (by omega) (Nat.mod_lt _ (by decide)) hnext (by rwa [hsplit]), hsplit]

theorem sub_div_mul_eq_mod (x v : Nat) : (x : Int) - (x / v * v : Nat) = (x % v : Nat) := by
  have := Nat.div_add_mod' x v
  omega

/-- Both partial remainders are below the divisor, so that nothing is lost modulo `2^64`. -/
theorem normalisedDivision_correct {u : Value} {vn : Word} (hv : 2 ^ 63 ≤ vn.toNat) (hu : u.hi.toNat < vn.toNat) :
    (normalisedDivision u vn).1.toNat = u.uval / vn.toNat ∧
      (normalisedDivision u vn).2.toNat = u.uval % vn.toNat := by
  have hlo := u.lo.isLt
  have hvlt := vn.isLt
  have hpos : 0 < vn.toNat := by omega
  have hnext : u.lo.toNat / 2 ^ 32 < 2 ^ 32 := by omega
  have hlast : u.lo.toNat % 2 ^ 32 < 2 ^ 32 := Nat.mod_lt _ (by decide)
  obtain ⟨x, hx⟩ : ∃ x, x = u.hi.toNat * 2 ^ 32 + u.lo.toNat / 2 ^ 32 := ⟨_, rfl⟩
  have hxlt : x % vn.toNat < vn.toNat := Nat.mod_lt _ hpos
  have huval : u.uval = x * 2 ^ 32 + u.lo.toNat % 2 ^ 32 := by rw [hx, uval_eq]; omega
  have hun21 : ((x % vn.toNat : Nat) % 2 ^ 64 : Int).toNat = x % vn.toNat := by omega
  have hq1 : x / vn.toNat < 2 ^ 32 := hx ▸ digit_lt hu hnext
  have hq0 := digit_lt hxlt hlast
  have hr : (x % vn.toNat * 2 ^ 32 + u.lo.toNat % 2 ^ 32) % vn.toNat < vn.toNat := Nat.mod_lt _ hpos
  rw [huval, (long_division hpos (2 ^ 32) x _).1, (long_division hpos (2 ^ 32) x _).2]
  dsimp only [normalisedDivision]
  rw [quotientDigit_of_word hv hu hnext, ← hx, sub_div_mul_eq_mod, hun21, quotientDigit_of_word hv hxlt hlast,
    sub_div_mul_eq_mod, BitVec.ofInt_natCast, BitVec.toNat_ofNat, BitVec.toNat_ofNat]
  exact ⟨Nat.mod_eq_of_lt (by omega), Nat.mod_eq_of_lt (hr.trans hvlt)⟩

/-- The 128-by-64 step is exact: normalising multiplies both operands by the same power of two. -/
theorem div128by64_correct {u1 u0 v : Word} (hv : v ≠ 0) (hu : u1 < v) :
    (div128by64 u1 u0 v).1.toNat = (u1.toNat * 2 ^ 64 + u0.toNat) / v.toNat ∧
      (div128by64 u1 u0 v).2.toNat = (u1.toNat * 2 ^ 64 + u0.toNat) % v.toNat := by
  have hs := (word_ne_zero_iff_lz64_lt v).1 hv
  obtain ⟨htop, hfits⟩ := word_shift_to_top hv
  rw [div128by64_eq u1 u0 hs]
  generalize lz64 v = s at *
  have hpow : 0 < 2 ^ s := Nat.two_pow_pos s
  have hvn : (v <<< s).toNat = v.toNat * 2 ^ s := by
    rw [BitVec.toNat_shiftLeft, Nat.shiftLeft_eq, Nat.mod_eq_of_lt hfits]
  have hlt : (u1.toNat * 2 ^ 64 + u0.toNat) * 2 ^ s < v.toNat * 2 ^ s * 2 ^ 64 := by
    have hword : u1.toNat * 2 ^ 64 + u0.toNat < v.toNat * 2 ^ 64 := by
      have := u0.isLt
      rw [BitVec.lt_def] at hu
      omega
    rw [Nat.mul_right_comm]
    exact Nat.mul_lt_mul_of_pos_right hword hpow
  have hun : (shl ⟨u1, u0⟩ s).uval = (u1.toNat * 2 ^ 64 + u0.toNat) * 2 ^ s :=
    uval_shl_of_lt (by rw [uval_mk]; omega)
  have hhi : (shl ⟨u1, u0⟩ s).hi.toNat < (v <<< s).toNat := by
    rw [hvn]
    rw [uval_eq] at hun
    omega
  obtain ⟨hq, hr⟩ := normalisedDivision_correct (by rwa [hvn]) hhi
  rw [hun, hvn] at hq hr
  refine ⟨by rw [hq, Nat.mul_div_mul_right _ _ hpow], ?_⟩
  rw [BitVec.toNat_ushiftRight, hr, Nat.mul_mod_mul_right, Nat.shiftRight_eq_div_pow, Nat.mul_div_cancel _ hpow]

/-! The Knuth routines (R108, R109). -/

/-- Path 6: long division with words as digits. -/
theorem knuth128by64_correct (a : Value) {v : Word} (hv : v ≠ 0) :
    (knuth128by64 a v).1.uval = a.uval / v.toNat ∧ (knuth128by64 a v).2.toNat = a.uval % v.toNat := by
  have hpos : 0 < v.toNat := Nat.pos_of_ne_zero (toNat_ne_zero hv)
  have hlt : a.hi % v < v := BitVec.umod_lt _ ((BitVec.pos_iff_ne_zero v).2 hv)
  obtain ⟨hq, hr⟩ := div128by64_correct (u0 := a.lo) hv hlt
  obtain ⟨hdiv, hmod⟩ := long_division hpos (2 ^ 64) a.hi.toNat a.lo.toNat
  rw [BitVec.toNat_umod] at hq hr
  rw [uval_eq a, hdiv, hmod, ← hq, ← hr, ← BitVec.toNat_udiv]
  exact ⟨rfl, rfl⟩

/-- The top word of the normalised divisor is what is left of the divisor without the bits below it. -/
theorem normalised_hi {b : Value} (hb : b.hi ≠ 0) :
    2 ^ 63 ≤ (shl b (lz64 b.hi)).hi.toNat ∧
      (shl b (lz64 b.hi)).hi.toNat = b.uval / (2 * 2 ^ (63 - lz64 b.hi)) := by
  obtain ⟨htop, hfits⟩ := value_shift_to_top hb
  have hs := (word_ne_zero_iff_lz64_lt b.hi).1 hb
  have hlo := (shl b (lz64 b.hi)).lo.isLt
  have hval := uval_shl_of_lt hfits
  rw [uval_eq] at hval
  have hpow : 2 ^ 64 = 2 * 2 ^ (63 - lz64 b.hi) * 2 ^ lz64 b.hi := by
    rw [← pow_succ', ← pow_add]; congr 1; omega
  refine ⟨by omega, ?_⟩
  rw [← Nat.mul_div_mul_right _ _ (Nat.two_pow_pos (lz64 b.hi)), ← hpow]
  omega

/-- The divisor cut to its top word, with `e = 2^s` and `f = 2^(63 - s)`: the quotient by the cut divisor is the true one or
one more, since the bits `c` cut off, taken once for each unit of the quotient and once more, are worth at most the cut
divisor `d`. -/
theorem quotient_by_top_word {a b e f : Nat} (hef : e * f = 2 ^ 63) (hv1 : 2 ^ 63 ≤ b / (2 * f)) (ha : a < 2 ^ 128) :
    a / b ≤ a / (b / (2 * f) * (2 * f)) ∧ a / (b / (2 * f) * (2 * f)) ≤ a / b + 1 := by
  have hf : 0 < f := Nat.pos_of_ne_zero fun h => by simp [h] at hef
  have hle : b / (2 * f) * (2 * f) ≤ b := Nat.div_mul_le_self _ _
  have hlt : b < b / (2 * f) * (2 * f) + 2 * f := Nat.lt_div_mul_add (by omega)
  have hcut : 2 ^ 63 * (2 * f) ≤ b / (2 * f) * (2 * f) := Nat.mul_le_mul_right _ hv1
  generalize b / (2 * f) * (2 * f) = d at *
  refine ⟨Nat.div_le_div_left hle (by omega), ?_⟩
  obtain ⟨c, rfl⟩ := Nat.exists_eq_add_of_le hle
  have hQ : a / (d + c) < 2 * e := by
    rw [Nat.div_lt_iff_lt_mul (by omega)]
    calc a < 2 ^ 65 * (e * f) := by omega
      _ = 2 * e * (2 ^ 63 * (2 * f)) := by ring
      _ ≤ 2 * e * (d + c) := Nat.mul_le_mul_left _ (by omega)
  have hloss : (a / (d + c) + 1) * c ≤ d := by
    calc (a / (d + c) + 1) * c ≤ 2 * e * (2 * f - 1) := Nat.mul_le_mul hQ (by omega)
      _ = 2 ^ 65 - 2 * e := by rw [Nat.mul_sub, mul_one]; congr 1; linarith
      _ ≤ d := by
        rcases Nat.lt_or_ge f 2 with h1 | h2
        · obtain rfl : f = 1 := by omega
          omega
        · omega
  have hlast : a < (a / (d + c) + 1) * (d + c) := (Nat.div_lt_iff_lt_mul (by omega)).1 (Nat.lt_succ_self _)
  rw [← Nat.lt_add_one_iff, Nat.div_lt_iff_lt_mul (by omega)]
  calc a < (a / (d + c) + 1) * d + (a / (d + c) + 1) * c := by rwa [← Nat.mul_add]
    _ ≤ (a / (d + c) + 1) * d + d := Nat.add_le_add_left hloss _
    _ = (a / (d + c) + 1 + 1) * d := (Nat.succ_mul _ _).symm

/-- The quotient by the divisor's top word: the estimate of path 7 before it is lowered. -/
def topWordQuotient (a b : Value) : Word :=
  shr64 (div128by64 (shr a 1).hi (shr a 1).lo (shl b (lz64 b.hi)).hi).1 ⟨63 - lz64 b.hi, by omega⟩

/-- The estimate of path 7. -/
def loweredQuotient (a b : Value) : Word :=
  if topWordQuotient a b ≠ 0 then topWordQuotient a b - 1 else topWordQuotient a b

/-- Path 7 is the estimate, corrected upward at most once. -/
theorem knuth128by128_eq (a b : Value) :
    knuth128by128 a b =
      if b.uval ≤ (sub a (mul b ⟨0, loweredQuotient a b⟩)).uval then
        (⟨0, loweredQuotient a b + 1⟩, sub (sub a (mul b ⟨0, loweredQuotient a b⟩)) b)
      else (⟨0, loweredQuotient a b⟩, sub a (mul b ⟨0, loweredQuotient a b⟩)) := rfl

theorem loweredQuotient_toNat (a b : Value) : (loweredQuotient a b).toNat = (topWordQuotient a b).toNat - 1 := by
  unfold loweredQuotient
  generalize topWordQuotient a b = q
  split_ifs with h
  · have := toNat_ne_zero h
    have := q.isLt
    rw [BitVec.toNat_sub, one_toNat]
    omega
  · rw [not_ne_iff.1 h]; rfl

theorem topWordQuotient_toNat (a : Value) {b : Value} (hb : b.hi ≠ 0) :
    (topWordQuotient a b).toNat =
      a.uval / (b.uval / (2 * 2 ^ (63 - lz64 b.hi)) * (2 * 2 ^ (63 - lz64 b.hi))) := by
  obtain ⟨htop, hcut⟩ := normalised_hi hb
  have ha := uval_lt a
  have hu : (shr a 1).uval = a.uval / 2 := by rw [uval_shr, pow_one]
  have hlt : (shr a 1).hi < (shl b (lz64 b.hi)).hi := by
    rw [BitVec.lt_def]
    rw [uval_eq] at hu
    omega
  have hne : (shl b (lz64 b.hi)).hi ≠ 0 := fun h => by simp [h] at htop
  rw [topWordQuotient, shr64, BitVec.toNat_ushiftRight, Nat.shiftRight_eq_div_pow, (div128by64_correct hne hlt).1,
    ← uval_eq, hu, hcut, Nat.div_div_eq_div_mul, Nat.div_div_eq_div_mul]
  congr 1
  ring

/-- The estimate of path 7 is the true quotient or one less (R109). -/
theorem loweredQuotient_bounds (a : Value) {b : Value} (hb : b.hi ≠ 0) :
    (loweredQuotient a b).toNat ≤ a.uval / b.uval ∧ a.uval / b.uval ≤ (loweredQuotient a b).toNat + 1 := by
  obtain ⟨htop, hcut⟩ := normalised_hi hb
  have hs := (word_ne_zero_iff_lz64_lt b.hi).1 hb
  have hef : 2 ^ lz64 b.hi * 2 ^ (63 - lz64 b.hi) = 2 ^ 63 := by rw [← pow_add]; congr 1; omega
  rw [hcut] at htop
  obtain ⟨hge, hone⟩ := quotient_by_top_word hef htop (uval_lt a)
  rw [loweredQuotient_toNat, topWordQuotient_toNat a hb]
  exact ⟨Nat.sub_le_of_le_add hone, hge.trans le_tsub_add⟩

/-- One upward correction of an estimate that is the quotient or one less. -/
theorem div_mod_of_estimate {a b q : Nat} (hb : 0 < b) (hle : q ≤ a / b) (hge : a / b ≤ q + 1) :
    if b ≤ a - b * q then a / b = q + 1 ∧ a % b = a - b * q - b else a / b = q ∧ a % b = a - b * q := by
  have hsplit := Nat.div_add_mod a b
  have hlt := Nat.mod_lt a hb
  obtain h | h : a / b = q ∨ a / b = q + 1 := by omega
  · rw [h] at hsplit
    rw [if_neg (by omega)]
    omega
  · rw [h, Nat.mul_succ] at hsplit
    rw [if_pos (by omega)]
    omega

/-- Path 7 is exact: nothing wraps, since the estimate times the divisor is at most the dividend. -/
theorem knuth128by128_correct (a : Value) {b : Value} (hb : b.hi ≠ 0) :
    (knuth128by128 a b).1.uval = a.uval / b.uval ∧ (knuth128by128 a b).2.uval = a.uval % b.uval := by
  have ha := uval_lt a
  have hwide : 2 ^ 64 ≤ b.uval := Nat.le_of_not_lt (mt (hi_eq_zero_iff b).2 hb)
  have hQ : a.uval / b.uval < 2 ^ 64 := by
    rw [Nat.div_lt_iff_lt_mul (by omega)]
    omega
  obtain ⟨hle, hge⟩ := loweredQuotient_bounds a hb
  have hstep := div_mod_of_estimate (by omega) hle hge
  rw [knuth128by128_eq]
  generalize loweredQuotient a b = q at *
  have hprod : b.uval * q.toNat ≤ a.uval :=
    (Nat.mul_le_mul_left _ hle).trans (Nat.mul_div_le _ _)
  have hmul : (mul b ⟨0, q⟩).uval = b.uval * q.toNat := by
    rw [← uval_low, uval_mul_of_lt (by rw [uval_low]; omega)]
  have hr : (sub a (mul b ⟨0, q⟩)).uval = a.uval - b.uval * q.toNat := by
    rw [← hmul, uval_sub_of_le (by rwa [hmul])]
  rw [← hr] at hstep
  split_ifs at hstep ⊢ with hcorrect
  · obtain ⟨hq, hm⟩ := hstep
    rw [uval_low, hm, hq, uval_sub_of_le hcorrect, BitVec.toNat_add, one_toNat, Nat.mod_eq_of_lt (by omega)]
    exact ⟨rfl, rfl⟩
  · obtain ⟨hq, hm⟩ := hstep
    rw [uval_low, hq, hm]
    exact ⟨rfl, rfl⟩

/-! The binary path (R110). -/

/-- One bit of the quotient shifted in. -/
theorem uval_shl_one_of_lt {q : Value} (h : q.uval * 2 < 2 ^ 128) : (shl q 1).uval = q.uval * 2 := by
  rw [uval_shl_of_lt (by rwa [pow_one]), pow_one]

theorem uval_shl_bitOr_one_of_lt {q : Value} (h : q.uval * 2 < 2 ^ 128) :
    (bitOr (shl q 1) one).uval = q.uval * 2 + 1 := by
  have hor := Nat.shiftLeft_add_eq_or_of_lt (i := 1) (b := 1) (by decide) q.uval
  rw [Nat.shiftLeft_eq, pow_one] at hor
  rw [uval_bitOr, uval_shl_one_of_lt h, uval_one, hor]

/-- The loop's invariant: with `n` rounds to go the shifted divisor is `b * 2^n / 2`, the remainder is below `b * 2^n`, and
the quotient so far, moved up `n` bits, lacks the quotient of the remainder. -/
theorem binaryLoop_correct {b : Nat} (hb : 0 < b) {n : Nat} {q r d : Value} (hd : d.uval = b * 2 ^ n / 2)
    (hr : r.uval < b * 2 ^ n) (hq : q.uval * 2 ^ n + r.uval / b < 2 ^ 128) :
    (binaryLoop n q r d).1.uval = q.uval * 2 ^ n + r.uval / b ∧ (binaryLoop n q r d).2.uval = r.uval % b := by
  induction n generalizing q r d with
  | zero =>
    rw [pow_zero, Nat.mul_one] at hr
    rw [binaryLoop, pow_zero, Nat.mul_one, Nat.div_eq_of_lt hr, Nat.mod_eq_of_lt hr, Nat.add_zero]
    exact ⟨rfl, rfl⟩
  | succ n ih =>
    have hpow := Nat.two_pow_pos n
    have hdn : d.uval = b * 2 ^ n := by rw [hd, pow_succ, ← Nat.mul_assoc, Nat.mul_div_cancel _ (by decide)]
    have hd' : (shr d 1).uval = b * 2 ^ n / 2 := by rw [uval_shr, hdn, pow_one]
    rw [pow_succ', ← Nat.mul_assoc] at hq ⊢
    have hfits : q.uval * 2 < 2 ^ 128 :=
      (Nat.le_mul_of_pos_right _ hpow).trans_lt ((Nat.le_add_right _ _).trans_lt hq)
    rw [pow_succ, ← Nat.mul_assoc] at hr
    rw [binaryLoop]
    split_ifs with hle
    · have hsub : (sub r d).uval = r.uval - b * 2 ^ n := by rw [uval_sub_of_le hle, hdn]
      rw [hdn] at hle
      obtain ⟨t, ht⟩ := Nat.exists_eq_add_of_le hle
      rw [ht, Nat.add_sub_cancel_left] at hsub
      have hdigit : q.uval * 2 * 2 ^ n + r.uval / b = (bitOr (shl q 1) one).uval * 2 ^ n + (sub r d).uval / b := by
        rw [uval_shl_bitOr_one_of_lt hfits, hsub, ht, Nat.mul_add_div hb, Nat.succ_mul, Nat.add_assoc]
      have hrest : r.uval % b = (sub r d).uval % b := by rw [hsub, ht, Nat.mul_add_mod]
      rw [hdigit] at hq ⊢
      rw [hrest]
      exact ih hd' (by omega) hq
    · rw [← uval_shl_one_of_lt hfits] at hq ⊢
      exact ih hd' (by omega) hq

/-- The shift by the gap loses no bit, and brings the divisor's highest bit to the dividend's. -/
theorem aligned_divisor {a b : Value} (hb : b ≠ zero) (hle : b.uval ≤ a.uval) :
    (shl b (lzcnt b - lzcnt a)).uval = b.uval * 2 ^ (lzcnt b - lzcnt a) ∧
      a.uval < b.uval * 2 ^ (lzcnt b - lzcnt a + 1) := by
  have hb0 := uval_ne_zero hb
  have ha0 : a.uval ≠ 0 := by omega
  rw [lzcnt_sub_lzcnt (mt (uval_eq_zero_iff a).2 ha0) hb]
  constructor
  · apply uval_shl_of_lt
    exact (shift_to_top hb0 (log2_le_of_le hb0 hle)).2.trans_le (Nat.pow_le_pow_right (by decide) (log2_uval_lt ha0))
  · exact lt_mul_two_pow_gap hb0 hle

/-- Path 8: the divisor aligned with the dividend, and one round for each bit of the quotient. -/
theorem binarydiv_correct {a b : Value} (hb : b ≠ zero) (hle : b.uval ≤ a.uval) :
    (binarydiv a b).1.uval = a.uval / b.uval ∧ (binarydiv a b).2.uval = a.uval % b.uval := by
  obtain ⟨hd, hr⟩ := aligned_divisor hb hle
  have hq : zero.uval * 2 ^ (lzcnt b - lzcnt a + 1) + a.uval / b.uval < 2 ^ 128 := by
    rw [uval_zero, Nat.zero_mul, Nat.zero_add]
    exact (Nat.div_le_self _ _).trans_lt (uval_lt a)
  have hhalf : (shl b (lzcnt b - lzcnt a)).uval = b.uval * 2 ^ (lzcnt b - lzcnt a + 1) / 2 := by
    rw [hd, pow_succ, ← Nat.mul_assoc, Nat.mul_div_cancel _ (by decide)]
  have h := binaryLoop_correct (Nat.pos_of_ne_zero (uval_ne_zero hb)) hhalf hr hq
  rwa [uval_zero, Nat.zero_mul, Nat.zero_add] at h

/-! The routine of every branch (R101 to R105). -/

/-- Each routine computes the quotient and the remainder where its branch is taken. -/
theorem runPath_correct {a b : Value} (hb : b ≠ zero) {p : DivPath} (hp : PathGuard a b p) :
    (runPath p a b).1.uval = a.uval / b.uval ∧ (runPath p a b).2.uval = a.uval % b.uval := by
  cases hp with
  | divisorOne h =>
    rw [runPath, h, uval_one, Nat.div_one, Nat.mod_one]
    exact ⟨rfl, uval_zero⟩
  | native ha hbhi =>
    rw [runPath, uval_low, uval_low, uval_eq_lo_toNat ha, uval_eq_lo_toNat hbhi]
    exact ⟨BitVec.toNat_udiv, BitVec.toNat_umod⟩
  | powerOfTwo h =>
    obtain ⟨k, hk⟩ := h
    have hpos : 0 < b.uval := hk ▸ Nat.two_pow_pos k
    rw [runPath, tzcnt_of_uval_eq_two_pow hk, uval_shr, uval_bitAnd, uval_dec_of_pos hpos, hk,
      Nat.and_two_pow_sub_one_eq_mod]
    exact ⟨rfl, rfl⟩
  | less h =>
    rw [runPath, Nat.div_eq_of_lt h, Nat.mod_eq_of_lt h]
    exact ⟨uval_zero, rfl⟩
  | equal h =>
    rw [runPath, h, Nat.div_self (Nat.pos_of_ne_zero (uval_ne_zero hb)), Nat.mod_self]
    exact ⟨uval_one, uval_zero⟩
  | knuth64 _ _ hbhi =>
    have hv : b.lo ≠ 0 := fun h => uval_ne_zero hb (by rw [uval_eq_lo_toNat hbhi, h, zero_toNat])
    rw [runPath, uval_low, uval_eq_lo_toNat hbhi]
    exact knuth128by64_correct a hv
  | knuth128 _ _ hbhi => exact knuth128by128_correct a hbhi
  | binary h _ => exact binarydiv_correct hb h.lt.le

/-- The two engines agree: the routine of the selected branch computes what R98 says. -/
theorem udivmodByPolicy_eq_udivmod (a : Value) {b : Value} (hb : b ≠ zero) : udivmodByPolicy a b = udivmod a b := by
  obtain ⟨hq, hr⟩ := runPath_correct hb (selectPath_guard a hb)
  rw [udivmod_of_ne a hb, udivmodByPolicy, if_neg hb, ← hq, ← hr, u128_uval, u128_uval]

/-- Settles O52: the engine of R98 answers by div and mod, and the engine that runs the routines answers the same. -/
theorem policyRoutinesComputeTheDivision : Obligations.PolicyRoutinesComputeTheDivision := by
  intro a b hb
  have hd := udivmod_of_ne a hb
  have hlt := Nat.mod_lt a.uval (Nat.pos_of_ne_zero (uval_ne_zero hb))
  refine ⟨_, (udivmodByPolicy_eq_udivmod a hb).trans hd, hd, rfl, rfl, ?_, ?_⟩
  · rw [uval_u128_of_lt ((Nat.div_le_self _ _).trans_lt (uval_lt a)),
      uval_u128_of_lt ((Nat.mod_le _ _).trans_lt (uval_lt a)), Nat.div_add_mod']
  · rwa [uval_u128_of_lt ((Nat.mod_le _ _).trans_lt (uval_lt a))]

end Sys2Proof.Machine

/-! The signed comparator and the sign converter: the signed readings are ordered by their signs and, under one sign, as the
unsigned ones, and negation and magnitude are those of the signed reading (spec 45_signed.md R125 to R138). -/

namespace Sys2Proof.Machine

/-! The signed reading, its sign, and the value it determines (R12, R14). -/

theorem sval_neg_iff (a : Value) : a.sval < 0 ↔ a.sign = true := by
  have hlt := uval_lt a
  unfold Value.sval
  split_ifs with h
  · exact iff_of_true (by omega) h
  · exact iff_of_false (by omega) h

/-- The negative one is less. -/
theorem sval_lt_of_sign {a b : Value} (ha : a.sign = true) (hb : b.sign = false) : a.sval < b.sval :=
  ((sval_neg_iff a).2 ha).trans_le (not_lt.1 (mt (sval_neg_iff b).1 (Bool.eq_false_iff.1 hb)))

theorem sval_eq_uval_of_lt {a : Value} (h : a.uval < 2 ^ 127) : a.sval = a.uval := by
  rw [Value.sval, sign_eq, decide_eq_false (Nat.not_le_of_lt h), if_neg Bool.false_ne_true]

/-- Under one sign the two readings are apart by the same number. -/
theorem sval_lt_iff_of_sign_eq {a b : Value} (h : a.sign = b.sign) : a.sval < b.sval ↔ a.uval < b.uval := by
  unfold Value.sval
  rw [h]
  split_ifs <;> omega

/-- `u128` of a value's own signed reading is the value, as `u128_uval` says of the unsigned one. -/
theorem u128_sval (a : Value) : u128 a.sval = a := by
  refine (eq_u128_of_emod ?_).symm
  calc (a.uval : Int) = (a.uval : Int) % 2 ^ 128 :=
        (Int.emod_eq_of_lt (Int.natCast_nonneg _) (by exact_mod_cast uval_lt a)).symm
    _ = a.sval % 2 ^ 128 := by rw [sval_eq_bmod]; exact (Int.bmod_emod).symm

theorem value_eq_of_sval {a b : Value} (h : a.sval = b.sval) : a = b := by
  rw [← u128_sval a, h, u128_sval]

/-! The three-way signed compare (R129). -/

theorem threeWay_self {α : Type} [LinearOrder α] (x : α) : threeWay x x = 0 := by
  simp [threeWay]

theorem threeWay_of_lt {α : Type} [LinearOrder α] {x y : α} (h : x < y) : threeWay x y = -1 := if_pos h

theorem threeWay_of_gt {α : Type} [LinearOrder α] {x y : α} (h : y < x) : threeWay x y = 1 := by
  rw [threeWay, if_neg h.asymm, if_pos h]

/-- The order of the signed readings, found by equality, then the signs, then the unsigned compare. -/
theorem scmp_eq_threeWay (a b : Value) : scmp a b = threeWay a.sval b.sval := by
  unfold scmp
  split_ifs with heq hsign hneg
  · rw [heq, threeWay_self]
  · exact (threeWay_of_lt (sval_lt_of_sign hneg (by simp_all))).symm
  · exact (threeWay_of_gt (sval_lt_of_sign (by simp_all) (Bool.eq_false_iff.2 hneg))).symm
  · have hs := not_not.1 hsign
    simp only [ucmp_eq_threeWay, threeWay, sval_lt_iff_of_sign_eq hs, sval_lt_iff_of_sign_eq hs.symm]

/-! The comparison commands: what `result` makes of the three-way result is what they write. -/

section Commands

variable (result : Int → Value) (rd rs1 rs2 : Reg) {s : State} {x : Value} (hf : s.faulted = false)

include hf

theorem signedCompare_of_running (hx : result (threeWay (s.readV rs1).sval (s.readV rs2).sval) = x) :
    signedCompare result rd rs1 rs2 s = .next (s.after rd x) := by
  rw [signedCompare, binary_of_running _ rd rs1 rs2 hf, finish_eq_after, scmp_eq_threeWay, hx]

theorem signedCompare64_of_running (hx : result (threeWay (s.readV rs1).sval (s.readV rs2).lo.toInt) = x) :
    signedCompare64 result rd rs1 rs2 s = .next (s.after rd x) := by
  rw [signedCompare64, binarySext_of_running _ rd rs1 rs2 hf, finish_eq_after, scmp_eq_threeWay, sval_sext128, hx]

end Commands

/-- Settles O34: SCMP and the four order predicates write functions of the three-way result of the signed readings. -/
theorem signedCompareOrdersTheValues : Obligations.SignedCompareOrdersTheValues := by
  intro rd rs1 rs2 s hf a b
  exact ⟨decode_encode (.scmp rd rs1 rs2), decode_encode (.slt rd rs1 rs2), decode_encode (.sle rd rs1 rs2),
    decode_encode (.sgt rd rs1 rs2), decode_encode (.sge rd rs1 rs2),
    signedCompare_of_running u128 rd rs1 rs2 hf (u128_threeWay _ _),
    signedCompare_of_running (fun c => truth (decide (c < 0))) rd rs1 rs2 hf (truth_threeWay_neg _ _),
    signedCompare_of_running (fun c => truth (decide (c ≤ 0))) rd rs1 rs2 hf (truth_threeWay_nonpos _ _),
    signedCompare_of_running (fun c => truth (decide (c > 0))) rd rs1 rs2 hf (truth_threeWay_pos _ _),
    signedCompare_of_running (fun c => truth (decide (c ≥ 0))) rd rs1 rs2 hf (truth_threeWay_nonneg _ _)⟩

/-- Settles O35: the entry forms write the same functions, and the sign-extended operand reads as the signed word. -/
theorem signedCompare64OrdersTheValues : Obligations.SignedCompare64 := by
  intro rd rs1 rs2 s hf a y
  exact ⟨decode_encode (.scmp64 rd rs1 rs2), decode_encode (.slt64 rd rs1 rs2), decode_encode (.sle64 rd rs1 rs2),
    decode_encode (.sgt64 rd rs1 rs2), decode_encode (.sge64 rd rs1 rs2),
    signedCompare64_of_running u128 rd rs1 rs2 hf (u128_threeWay _ _),
    signedCompare64_of_running (fun c => truth (decide (c < 0))) rd rs1 rs2 hf (truth_threeWay_neg _ _),
    signedCompare64_of_running (fun c => truth (decide (c ≤ 0))) rd rs1 rs2 hf (truth_threeWay_nonpos _ _),
    signedCompare64_of_running (fun c => truth (decide (c > 0))) rd rs1 rs2 hf (truth_threeWay_pos _ _),
    signedCompare64_of_running (fun c => truth (decide (c ≥ 0))) rd rs1 rs2 hf (truth_threeWay_nonneg _ _)⟩

/-! The sign converter as numbers (R125 to R128). -/

theorem sgn_eq_sign_sval (a : Value) : sgn a = a.sval.sign := by
  have hneg := sval_neg_iff a
  have hzero := sval_eq_zero_iff a
  unfold sgn
  split_ifs with hsign hz
  · exact (Int.sign_eq_neg_one_of_neg (hneg.2 hsign)).symm
  · rw [hzero.2 hz, Int.sign_zero]
  · have hpos : 0 < a.sval := lt_of_le_of_ne (not_lt.1 (mt hneg.1 hsign)) (Ne.symm (mt hzero.1 hz))
    exact (Int.sign_eq_one_of_pos hpos).symm

/-- NEG by the signed reading; `neg_eq` says the same by the unsigned one, and the two are congruent. -/
theorem neg_eq_u128_neg_sval (a : Value) : neg a = u128 (-a.sval) := by
  rw [← neg_u128, u128_sval]

theorem sval_mins : mins.sval = -2 ^ 127 := by decide

theorem natAbs_sval_lt {a : Value} (h : a ≠ mins) : a.sval.natAbs < 2 ^ 127 := by
  have hrange := sval_range a
  have hne : a.sval ≠ -2 ^ 127 := fun he => h (value_eq_of_sval (he.trans sval_mins.symm))
  omega

/-- The magnitude is below `2^127`, and so not negative, but for MINS (R127). -/
theorem sval_magnitude {a : Value} (h : a ≠ mins) : (magnitude a).sval = a.sval.natAbs := by
  rw [sval_eq_uval_of_lt (by rw [uval_magnitude]; exact natAbs_sval_lt h), uval_magnitude]

/-- The fixed point of ABS, and so of NEG (R126, R127). -/
theorem magnitude_mins : magnitude mins = mins := by decide

/-- Settles O58: SIGN, NEG and the magnitude are those of the signed reading, and ABS and ABSU write the one magnitude. -/
theorem signConverterByNumbers : Obligations.SignConverterByNumbers := by
  intro rd rs1 s hf a
  refine ⟨decode_encode (.sign rd rs1), decode_encode (.neg rd rs1), decode_encode (.abs rd rs1),
    decode_encode (.absu rd rs1), unary_eq_after rd rs1 hf (fun a => u128 (sgn a)) ?_,
    unary_eq_after rd rs1 hf neg (neg_eq_u128_neg_sval a),
    magnitude a, unary_eq_after rd rs1 hf magnitude rfl, unary_eq_after rd rs1 hf magnitude rfl,
    uval_magnitude a, sval_magnitude, fun ha => ?_⟩
  · exact congrArg u128 (sgn_eq_sign_sval a)
  · rw [ha, magnitude_mins]

end Sys2Proof.Machine

/-! The narrowing predicates: a value fits in 64 bits when its low word, zero-extended or sign-extended, reads as the value
does (spec 46_convert.md R139, R140). -/

namespace Sys2Proof.Machine

theorem truth_eq_ite {b : Bool} {p : Prop} [Decidable p] (h : b = true ↔ p) : truth b = if p then one else zero :=
  if_congr h rfl rfl

theorem sval_eq_uval_of_nonneg {a : Value} (h : 0 ≤ a.sval) : a.sval = a.uval := by
  rw [Value.sval, if_neg (mt (sval_neg_iff a).2 (not_lt.2 h))]

/-! The unsigned predicate (R139). -/

theorem fitsUnsigned_iff (a : Value) : fitsUnsigned a = true ↔ a.uval ≤ 2 ^ 64 - 1 := by
  rw [fitsUnsigned, beq_iff_eq, hi_eq_zero_iff]
  omega

theorem uval_le_iff_sval_range (a : Value) : a.uval ≤ 2 ^ 64 - 1 ↔ 0 ≤ a.sval ∧ a.sval ≤ 2 ^ 64 - 1 := by
  constructor
  · intro h
    rw [sval_eq_uval_of_lt (by omega)]
    omega
  · rintro ⟨hnonneg, hle⟩
    rw [sval_eq_uval_of_nonneg hnonneg] at hle
    omega

theorem uval_le_iff_lo_toNat (a : Value) : a.uval ≤ 2 ^ 64 - 1 ↔ a.lo.toNat = a.uval := by
  have hlo := a.lo.isLt
  rw [uval_eq]
  omega

/-! The signed predicate (R140). -/

/-- The two tests of the pseudocode ask for the high word that sign extension of the low word gives. -/
theorem fitsSigned_iff_sext128 (a : Value) : fitsSigned a = true ↔ sext128 a.lo = a := by
  obtain ⟨h, l⟩ := a
  unfold fitsSigned sext128
  cases l.getLsbD 63 with
  | false => simp [eq_comm (a := h)]
  | true => simp [eq_comm (a := h)]

theorem sext128_lo_iff_lo_toInt (a : Value) : sext128 a.lo = a ↔ a.lo.toInt = a.sval := by
  rw [← sval_sext128]
  exact ⟨congrArg Value.sval, value_eq_of_sval⟩

/-- The low word is the value modulo `2^64`, in the signed readings too. -/
theorem lo_toInt_eq_bmod (a : Value) : a.lo.toInt = a.sval.bmod (2 ^ 64) := by
  rw [sval_eq_bmod, Int.bmod_bmod_of_dvd (pow_dvd_pow 2 (by decide)), uval_eq, BitVec.toInt_eq_toNat_bmod]
  push_cast
  rw [add_comm]
  exact (Int.add_mul_bmod_self_right _ _ _).symm

theorem sval_range64_iff_lo_toInt (a : Value) : -2 ^ 63 ≤ a.sval ∧ a.sval ≤ 2 ^ 63 - 1 ↔ a.lo.toInt = a.sval := by
  constructor
  · rintro ⟨hge, hle⟩
    rw [lo_toInt_eq_bmod, Int.bmod_eq_of_le (by omega) (by omega)]
  · intro h
    exact h ▸ ⟨a.lo.le_toInt, a.lo.toInt_le⟩

theorem fitsSigned_iff (a : Value) : fitsSigned a = true ↔ -2 ^ 63 ≤ a.sval ∧ a.sval ≤ 2 ^ 63 - 1 :=
  calc fitsSigned a = true ↔ sext128 a.lo = a := fitsSigned_iff_sext128 a
    _ ↔ a.lo.toInt = a.sval := sext128_lo_iff_lo_toInt a
    _ ↔ -2 ^ 63 ≤ a.sval ∧ a.sval ≤ 2 ^ 63 - 1 := (sval_range64_iff_lo_toInt a).symm

/-- Within the unsigned range the two readings agree, and the signed bound is the stronger. -/
theorem fitsBoth_iff (a : Value) :
    (a.uval ≤ 2 ^ 64 - 1 ∧ -2 ^ 63 ≤ a.sval ∧ a.sval ≤ 2 ^ 63 - 1) ↔ a.uval ≤ 2 ^ 63 - 1 := by
  constructor
  · rintro ⟨hunsigned, -, hsigned⟩
    rw [sval_eq_uval_of_lt (by omega)] at hsigned
    omega
  · intro h
    rw [sval_eq_uval_of_lt (by omega)]
    omega

/-- Settles O59: each command writes the truth of its predicate, and the predicates are ranges of the two readings. -/
theorem narrowingPredicatesByNumbers : Obligations.NarrowingPredicatesByNumbers := by
  intro rd rs1 s hf a
  have hunsigned := fitsUnsigned_iff a
  exact ⟨decode_encode (.fitu64 rd rs1), decode_encode (.fits64 rd rs1),
    unary_eq_after rd rs1 hf (fun a => truth (fitsUnsigned a)) (truth_eq_ite hunsigned),
    unary_eq_after rd rs1 hf (fun a => truth (fitsUnsigned a))
      (truth_eq_ite (hunsigned.trans (uval_le_iff_sval_range a))),
    unary_eq_after rd rs1 hf (fun a => truth (fitsSigned a)) (truth_eq_ite (fitsSigned_iff a)),
    uval_le_iff_lo_toNat a, sval_range64_iff_lo_toInt a, fitsBoth_iff a⟩

end Sys2Proof.Machine

/-! Fault entry, the fault state and its exit, and what raises DivideByZero (spec 60_exceptions.md R142, R146 to R148). -/

namespace Sys2Proof.Machine

/-! The fault state: a command there answers at most a response, and only RDST answers one (R147). -/

theorem rdst_iff_of_decode {w : BitVec 32} {i : Instr} (h : decode w = .ok i) : i = .rdst ↔ w = 0x00000008 := by
  constructor
  · rintro rfl
    exact (decode_ok h).1.symm
  · rintro rfl
    exact Except.ok.inj (h.symm.trans (decode_encode .rdst))

/-- A word that does not decode is not RDST's. -/
theorem ne_rdst_of_decode_error {w : BitVec 32} {e : DecodeError} (h : decode w = .error e) : w ≠ 0x00000008 := by
  rintro rfl
  exact absurd (h.symm.trans (decode_encode .rdst)) nofun

/-- Settles O13: a word that decodes runs `exec_of_faulted` or RDST, and one that does not is ignored as an illegal
command. -/
theorem faultStateIgnoresCommands : Obligations.FaultStateIgnoresCommands := by
  intro s w d rest hin hp hf
  have hf' : ({ s with input := rest }.sample w d).faulted = true := hf
  rcases step_of_command hin hp with ⟨i, hd, hs⟩ | ⟨e, hd, hs⟩
  · by_cases hw : w = 0x00000008
    · rw [hs, (rdst_iff_of_decode hd).2 hw, if_pos hw]; rfl
    · rw [hs, exec_of_faulted hf' (mt (rdst_iff_of_decode hd).1 hw), if_neg hw]; rfl
  · rw [hs, illegalCommand, unlessFaulted_of_faulted _ hf', if_neg (ne_rdst_of_decode_error hd)]; rfl

/-! The exit from the fault state (R148). -/

/-- The host's next action changes the level of RESET or asserts it again. -/
def ResetPending (s : State) : Prop :=
  ∃ rest, s.input = .assertReset :: rest ∨ s.resetPin = true ∧ s.input = .releaseReset :: rest

/-- A step from the fault state resets STATUS and FCMD, at a change of RESET, or keeps them and every register. -/
theorem step_of_faulted_cases {s t : State} (hf : s.faulted = true) (h : step s = .next t) :
    (ResetPending s ∧ t.status = 0 ∧ t.fcmd = 0) ∨ (t.status = s.status ∧ t.fcmd = s.fcmd ∧ t.v = s.v) := by
  cases step_effect h with
  | idle | dropped | ignoredUndecodable | releasedIdle => exact .inr ⟨rfl, rfl, rfl⟩
  | ran w d rest i _ hin hp =>
    rw [faultStateIgnoresCommands s w d rest hin hp hf] at h
    cases h
    exact .inr ⟨rfl, rfl, rfl⟩
  | raisedUndecodable _ _ _ _ _ _ _ hrun => exact absurd (hf.symm.trans hrun) nofun
  | asserted rest hin => exact .inl ⟨⟨rest, .inl hin⟩, rfl, rfl⟩
  | released rest hin hp => exact .inl ⟨⟨rest, .inr ⟨hp, hin⟩⟩, rfl, rfl⟩

theorem faulted_congr {s t : State} (h : t.status = s.status) : t.faulted = s.faulted := congrArg statusFault h

theorem faulted_of_status_zero {s : State} (h : s.status = 0) : s.faulted = false := congrArg statusFault h

/-- Settles O14: FAULT after the step tells the two cases of `step_of_faulted_cases` apart. -/
theorem onlyResetLeavesTheFaultState : Obligations.OnlyResetLeavesTheFaultState := by
  intro s t hf h
  rcases step_of_faulted_cases hf h with ⟨hreset, hstatus, hfcmd⟩ | hkept
  · exact ⟨fun _ => ⟨hreset, hstatus, hfcmd⟩,
      fun ht => absurd (ht.symm.trans (faulted_of_status_zero hstatus)) nofun⟩
  · exact ⟨fun ht => absurd (hf.symm.trans ((faulted_congr hkept.1).symm.trans ht)) nofun, fun _ => hkept⟩

/-! What raises DivideByZero (R142). -/

/-- A division that completes keeps FAULT, so outside the fault state it is not a fault entry. -/
theorem CompletesDivision.not_entersFault {i : Instr} {s : State} {regs : Vector Value 8} {p : BitVec 4} {c : BitVec 3}
    (h : CompletesDivision i s regs p) (hf : s.faulted = false) : ¬EntersFault i s c := by
  rintro ⟨t, ht, hentered⟩
  obtain ⟨u, hu, hdivided⟩ := h
  obtain rfl := Host.Outcome.next.inj (ht.symm.trans hu)
  have hkept := (hdivided.otherBits 0 (.inl (by decide))).trans hf
  exact absurd (hentered.fault.symm.trans hkept) nofun

/-- The commands on an engine raise DivideByZero exactly when it answers nothing. -/
theorem OnEngine.entersFault_iff {engine : State → Option DivResult} {rd rd2 : Reg} {iq ir iqr : Instr} {s : State}
    (h : OnEngine engine rd rd2 iq ir iqr) (hf : s.faulted = false) {p : Prop} (hp : engine s = none ↔ p) :
    (EntersFault iq s 1 ↔ p) ∧ (EntersFault ir s 1 ↔ p) ∧ (rd ≠ rd2 → (EntersFault iqr s 1 ↔ p)) := by
  rw [← hp]
  cases hd : engine s with
  | none =>
    obtain ⟨hq, hr, hqr⟩ := h.dividesByZero hf hd
    exact ⟨iff_of_true hq rfl, iff_of_true hr rfl, fun hne => iff_of_true (hqr hne) rfl⟩
  | some d =>
    obtain ⟨hq, hr, hqr⟩ := h.completes hf hd
    exact ⟨iff_of_false (hq.not_entersFault hf) nofun, iff_of_false (hr.not_entersFault hf) nofun,
      fun hne => iff_of_false ((hqr hne).not_entersFault hf) nofun⟩

theorem zext128_eq_zero_iff (x : Word) : zext128 x = zero ↔ x = 0 :=
  ⟨congrArg Value.lo, by rintro rfl; rfl⟩

theorem sext128_eq_zero_iff (x : Word) : sext128 x = zero ↔ x = 0 :=
  ⟨congrArg Value.lo, by rintro rfl; rfl⟩

/-- Of the effects of a command only that of a division ends in the fault state with cause 1 (R142). -/
theorem CommandEffect.isDivision_of_cause {i : Instr} {s t : State} (h : CommandEffect i s t) (hf : s.faulted = false)
    (ht : t.faulted = true) (hc : statusCause t.status = 1) : isDivision i = true := by
  cases h with
  | raisedDivideByZero _ hi => exact hi
  | raisedIllegal => simp [causeCode] at hc
  | ignored | statusRead | responded | wrote | divided | dividedBoth => simp [hf] at ht

/-- Settles O50: each of the four engines answers nothing exactly for a zero divisor, an extended low word is zero exactly
when the word is, and the inversion of `exec` leaves cause 1 to the divisions. -/
theorem divideByZeroExactlyForZeroDivisors : Obligations.DivideByZeroExactlyForZeroDivisors := by
  intro rd rd2 rs1 rs2 s hf
  obtain ⟨hudiv, humod, hudivmod⟩ := (udiv_onEngine rd rd2 rs1 rs2).entersFault_iff hf (udivmod_eq_none_iff _ _)
  obtain ⟨hsdiv, hsmod, hsdivmod⟩ := (sdiv_onEngine rd rd2 rs1 rs2).entersFault_iff hf (sdivmod_eq_none_iff _ _)
  obtain ⟨hudiv64, humod64, hudivmod64⟩ := (udiv64_onEngine rd rd2 rs1 rs2).entersFault_iff hf
    ((udivmod_eq_none_iff _ _).trans (zext128_eq_zero_iff _))
  obtain ⟨hsdiv64, hsmod64, hsdivmod64⟩ := (sdiv64_onEngine rd rd2 rs1 rs2).entersFault_iff hf
    ((sdivmod_eq_none_iff _ _).trans (sext128_eq_zero_iff _))
  exact ⟨hudiv, humod, hsdiv, hsmod, hudiv64, humod64, hsdiv64, hsmod64, hudivmod, hsdivmod, hudivmod64, hsdivmod64,
    fun _ ⟨_, ht, hentered⟩ => (exec_effect ht).isDivision_of_cause hf hentered.fault hentered.cause⟩

/-! Fault entry (R146). -/

/-- Settles O12: `raiseFault_entered` is fault entry field by field, and FAULT drives the pin. -/
theorem faultEntryWritesOnlyTheRecord : Obligations.FaultEntryWritesOnlyTheRecord := fun s =>
  ⟨raiseFault_entered .divideByZero s, raiseFault_entered .illegalCommand s, fun c => raiseFault_faulted c s⟩

end Sys2Proof.Machine

/-! Decoding and encoding undo each other, and the decoder accepts a word exactly as the opcode map does (spec 30_encoding.md
R38, R42, R43). -/

namespace Sys2Proof

/-- Settles O1: the opcode of the packed word selects the instruction's row, and its format gives every operand back. -/
theorem decodeOfEncodeIsIdentity : Obligations.DecodeOfEncodeIsIdentity := decode_encode

/-- Settles O2: a word that decodes is packed from the fields its row's format uses. -/
theorem encodeOfDecodeIsIdentity : Obligations.EncodeOfDecodeIsIdentity := fun _ _ h => (decode_ok h).1

/-- Settles O3: mask and match is the row's opcode with the format's unused fields zero, which is the decoder's test. -/
theorem decodeIsMaskAndMatch : Obligations.DecodeIsMaskAndMatch := by
  intro w
  constructor
  · intro i h
    obtain ⟨rfl, f, hrow, hzero⟩ := decode_ok h
    exact ⟨_, f, hrow, Format.and_mask_eq_iff.2 ⟨hzero, rfl⟩, rfl⟩
  · intro op f hrow hmatch
    obtain ⟨hzero, rfl⟩ := Format.of_and_mask hmatch
    obtain ⟨i, hi, hword⟩ := decode_of_row hrow
    rw [hzero] at hi
    exact ⟨i, hi, by rw [hword, Format.word_opField hzero]⟩

/-- Settles O4: closed words, which the decoder evaluates. -/
theorem wordsOfTheSpecDecode : Obligations.WordsOfTheSpecDecode := by
  unfold Obligations.WordsOfTheSpecDecode
  decide

end Sys2Proof

/-! The engines and the routines of the branches: the division identity in wrapped arithmetic, and each routine under its own
precondition (spec 44_divide.md R107 to R110, section 7). -/

namespace Sys2Proof.Machine

/-! `u128` takes the integers' sums and products to the datapath's (R14). -/

theorem add_u128_u128 (m n : Int) : add (u128 m) (u128 n) = u128 (m + n) := by
  rw [add_eq, uval_u128, uval_u128]
  exact eq_u128_of_emod (by rw [uval_u128, ← Int.add_emod])

theorem mul_u128_u128 (m n : Int) : mul (u128 m) (u128 n) = u128 (m * n) := by
  rw [mul_eq, uval_u128, uval_u128]
  exact eq_u128_of_emod (by rw [uval_u128, ← Int.mul_emod])

theorem u128_add_mul_u128 (q n r : Int) : add (mul (u128 q) (u128 n)) (u128 r) = u128 (q * n + r) := by
  rw [mul_u128_u128, add_u128_u128]

/-! The identity (R124). -/

theorem udivmod_identity (a b : Value) :
    add (mul (u128 (a.uval / b.uval : Nat)) b) (u128 (a.uval % b.uval : Nat)) = a := by
  have hsplit : ((a.uval / b.uval : Nat) : Int) * b.uval + (a.uval % b.uval : Nat) = a.uval := by
    exact_mod_cast Nat.div_add_mod' a.uval b.uval
  conv_lhs => enter [1, 2]; rw [← u128_uval b]
  rw [u128_add_mul_u128, hsplit, u128_uval]

/-- The truncated division of the signed readings, MINS by -1 included, where the quotient wraps. -/
theorem sdivmod_identity (a b : Value) :
    add (mul (u128 (a.sval.tdiv b.sval)) b) (u128 (a.sval.tmod b.sval)) = a := by
  conv_lhs => enter [1, 2]; rw [← u128_sval b]
  rw [u128_add_mul_u128, Int.tdiv_mul_add_tmod, u128_sval]

theorem uval_remainder_lt (a : Value) {b : Value} (hb : b ≠ zero) : (u128 (a.uval % b.uval : Nat)).uval < b.uval := by
  rw [uval_u128_of_lt ((Nat.mod_le _ _).trans_lt (uval_lt a))]
  exact Nat.mod_lt _ (Nat.pos_of_ne_zero (uval_ne_zero hb))

/-- A truncated remainder lies between zero and the dividend. -/
theorem tmod_sval_range (a b : Value) :
    if a.sign then a.sval ≤ a.sval.tmod b.sval ∧ a.sval.tmod b.sval ≤ 0
    else 0 ≤ a.sval.tmod b.sval ∧ a.sval.tmod b.sval ≤ a.sval := by
  have hle := Nat.mod_le a.sval.natAbs b.sval.natAbs
  have hsign := sval_eq_of_sign a
  rw [tmod_sval]
  split_ifs at hsign ⊢ <;> omega

/-- A truncated remainder does not wrap. -/
theorem sval_remainder (a b : Value) : (u128 (a.sval.tmod b.sval)).sval = a.sval.tmod b.sval := by
  have hrange := sval_range a
  have hmod := tmod_sval_range a b
  rw [sval_u128]
  split_ifs at hmod <;> exact Int.bmod_eq_of_le (by omega) (by omega)

/-- A truncated remainder is zero or of the dividend's sign. -/
theorem sign_remainder (a b : Value) :
    u128 (a.sval.tmod b.sval) = zero ∨ (u128 (a.sval.tmod b.sval)).sign = a.sign := by
  refine or_iff_not_imp_left.2 fun hne => ?_
  have hmod := tmod_sval_range a b
  rw [← sval_eq_zero_iff, sval_remainder] at hne
  rw [Bool.eq_iff_iff, ← sval_neg_iff, sval_remainder]
  split_ifs at hmod with hsign
  · exact iff_of_true (by omega) hsign
  · exact iff_of_false (by omega) hsign

/-- Settles O51: both engines split the dividend by a division of its reading, and `u128` takes the split into the
datapath. -/
theorem divisionIdentity : Obligations.DivisionIdentity := fun a b hb =>
  ⟨⟨_, udivmod_of_ne a hb, udivmod_identity a b, uval_remainder_lt a hb⟩,
    ⟨_, sdivmod_of_ne a hb, sdivmod_identity a b, sign_remainder a b⟩⟩

/-- Settles O54: normalisation, and two estimated digits corrected at most twice each. -/
theorem div128by64Correct : Obligations.Div128by64Correct := fun _ _ _ => div128by64_correct

/-- Settles O55: long division with words as digits, the second digit by the 128-by-64 step. -/
theorem knuth128by64Correct : Obligations.Knuth128by64Correct := fun a _ => knuth128by64_correct a

/-- Settles O56: the estimate by the divisor's top word, lowered by one and corrected upward at most once. -/
theorem knuth128by128Correct : Obligations.Knuth128by128Correct := fun a _ => knuth128by128_correct a

/-- Settles O57: the loop's invariant from the aligned divisor on. -/
theorem binaryDivisionCorrect : Obligations.BinaryDivisionCorrect := fun _ _ => binarydiv_correct

end Sys2Proof.Machine

/-! The unsigned predicates partition the pairs of values (spec 42_compare.md section 3). -/

namespace Sys2Proof.Machine

theorem words_eq_iff_uval (a b : Value) : (a.hi = b.hi ∧ a.lo = b.lo) ↔ a.uval = b.uval := by
  rw [← value_eq_iff_uval]
  cases a; cases b; simp

/-- Settles O32: the predicates are those of the order of the unsigned readings, and of two numbers one of less, equal and
greater holds. -/
theorem predicatesPartitionThePairs : Obligations.PredicatesPartitionThePairs := by
  intro rd rs1 rs2 s hf
  obtain ⟨-, -, -, -, -, -, -, hlt, hle, hgt, hge, heq⟩ := unsignedCompareOrdersTheValues rd rs1 rs2 s hf
  refine ⟨_, _, _, _, _, hlt, heq, hgt, hle, hge, ?_⟩
  rw [if_congr (words_eq_iff_uval _ _) rfl rfl]
  rcases lt_trichotomy (s.readV rs1).uval (s.readV rs2).uval with h | h | h
  · rw [if_pos h, if_neg h.ne, if_neg h.asymm, if_pos h.le, if_neg h.not_ge]
    exact ⟨.inl ⟨rfl, rfl, rfl⟩, rfl, rfl⟩
  · rw [if_neg h.not_lt, if_pos h, if_neg h.not_gt, if_pos h.le, if_pos h.ge]
    exact ⟨.inr (.inl ⟨rfl, rfl, rfl⟩), rfl, rfl⟩
  · rw [if_neg h.asymm, if_neg h.ne', if_pos h, if_neg h.not_ge, if_pos h.le]
    exact ⟨.inr (.inr ⟨rfl, rfl, rfl⟩), rfl, rfl⟩

end Sys2Proof.Machine

/-! The shape of every step: it answers a next state and takes one host action, what it does at an idle step and at a change of
RESET, and who responds (spec 10_state.md R22, R29, 70_reset_and_hazards.md R152, R153). -/

namespace Sys2Proof.Machine

theorem unlessFaulted_answers (e : State → State) (s : State) : ∃ t, unlessFaulted e s = .next t := ⟨_, rfl⟩

/-- Settles O6: with RESET released a transaction runs what the word decodes to. -/
theorem stepRunsTheDecodedCommand : Obligations.StepRunsTheDecodedCommand := by
  intro i s w d rest hin hp hd
  rcases step_of_command hin hp with ⟨j, hj, hs⟩ | ⟨e, he, -⟩
  · obtain rfl := Except.ok.inj (hd.symm.trans hj)
    exact hs
  · exact absurd (hd.symm.trans he) nofun

/-! The work of a step by the host action that is pending. -/

theorem step_of_idle {s : State} (hin : s.input = []) : step s = .next (s.respond none) :=
  step_of_settled (by rw [nextWork, hin])

theorem step_of_assertReset {s : State} {rest : List HostEvent} (hin : s.input = .assertReset :: rest) :
    step s = .next (assertResetPin { s with input := rest }) :=
  step_of_settled (by rw [nextWork, hin])

theorem step_of_releaseReset {s : State} {rest : List HostEvent} (hin : s.input = .releaseReset :: rest) :
    step s = .next (releaseResetPin { s with input := rest }) :=
  step_of_settled (by rw [nextWork, hin])

/-- A command pending while RESET is asserted is dropped (notes/assumptions/3.md). -/
theorem step_of_command_in_reset {s : State} {w : BitVec 32} {d : Value} {rest : List HostEvent}
    (hin : s.input = .command w d :: rest) (hp : s.resetPin = true) :
    step s = .next ({ s with input := rest }.respond none) :=
  step_of_settled (by rw [nextWork, hin]; exact if_pos hp)

/-- Settles O9: the idle step only clears the response. -/
theorem idleStepChangesNothing : Obligations.IdleStepChangesNothing := fun _ => step_of_idle

/-- Settles O11: the pin's two edges take the reset state, and nothing else at the pin or the port has an effect. -/
theorem resetPinEffects : Obligations.ResetPinEffects := by
  intro s rest
  refine ⟨step_of_assertReset, fun hin hp => ?_, fun hin hp => ?_, fun _ _ => step_of_command_in_reset⟩
  · rw [step_of_releaseReset hin, releaseResetPin, if_pos hp]; rfl
  · rw [step_of_releaseReset hin, releaseResetPin, if_neg (Bool.eq_false_iff.1 hp)]; rfl

theorem step_of_command_answers {s : State} {w : BitVec 32} {d : Value} {rest : List HostEvent}
    (hin : s.input = .command w d :: rest) : ∃ t, step s = .next t := by
  cases hp : s.resetPin with
  | true => exact ⟨_, step_of_command_in_reset hin hp⟩
  | false =>
    rcases step_of_command hin hp with ⟨i, -, hs⟩ | ⟨e, -, hs⟩
    · exact hs ▸ exec_answers i _
    · exact hs ▸ unlessFaulted_answers _ _

/-- Settles O7: every instruction answers a next state, and so does a step at each host action and at none. -/
theorem everyStepAnswersNext : Obligations.EveryStepAnswersNext := by
  refine ⟨fun s => ?_, exec_answers⟩
  match hin : s.input with
  | [] => exact ⟨_, step_of_idle hin⟩
  | .command w d :: rest => exact step_of_command_answers hin
  | .assertReset :: rest => exact ⟨_, step_of_assertReset hin⟩
  | .releaseReset :: rest => exact ⟨_, step_of_releaseReset hin⟩

/-- No command touches the list of host actions (R22). -/
theorem CommandEffect.input_eq {i : Instr} {s t : State} (h : CommandEffect i s t) : t.input = s.input := by
  cases h <;> rfl

/-- Settles O8: a step takes the head of the list off before anything else, and nothing after that touches the list. -/
theorem hostActionsAreTakenInOrder : Obligations.HostActionsAreTakenInOrder := by
  intro s t h
  cases step_effect h with
  | idle hin => simp [hin]
  | ran w d rest i _ hin _ _ hx => simpa [hin] using (exec_effect hx).input_eq
  | dropped _ _ rest hin | ignoredUndecodable _ _ rest _ hin | raisedUndecodable _ _ rest _ hin
  | asserted rest hin | released rest hin | releasedIdle rest hin => rw [hin]; rfl

/-- Settles O19: of the effects of a command only a response and RDST's answer put anything on DOUT. -/
theorem onlyAccessorsRespond : Obligations.OnlyAccessorsRespond := by
  intro i s t h hdout
  cases exec_effect h with
  | statusRead hi => exact .inr (.inr hi)
  | responded d _ hi => exact hi
  | ignored | wrote | raisedIllegal | raisedDivideByZero | divided | dividedBoth => exact absurd rfl hdout

/-- Settles O10: `State.reset` is a literal, and its fields are read off. -/
theorem resetStateValues : Obligations.ResetStateValues := ⟨rfl, rfl, rfl, rfl, rfl, rfl⟩

end Sys2Proof.Machine

/-! STATUS and FCMD: what can change them, and the invariant of the machine (spec 10_state.md R24 to R26, 60_exceptions.md
R141 to R148). -/

namespace Sys2Proof.Machine

/-- The effects of a command on STATUS and FCMD: none, fault entry, or DPATH of a completed division. -/
theorem CommandEffect.record_cases {i : Instr} {s t : State} (h : CommandEffect i s t) :
    (t.status = s.status ∧ t.fcmd = s.fcmd) ∨
      (s.faulted = false ∧ i.wellFormed = false ∧ t = raiseFault .illegalCommand s) ∨
      (s.faulted = false ∧ i.wellFormed = true ∧ isDivision i = true ∧ t = raiseFault .divideByZero s) ∨
      (s.faulted = false ∧ isDivision i = true ∧
        ∃ p regs, t = setDpath p { s with v := regs, dout := none }) := by
  cases h with
  | ignored | statusRead | responded | wrote => exact .inl ⟨rfl, rfl⟩
  | raisedIllegal hf hw => exact .inr (.inl ⟨hf, hw, rfl⟩)
  | raisedDivideByZero hf hi hw => exact .inr (.inr (.inl ⟨hf, hw, hi, rfl⟩))
  | divided rd x p hf hi => exact .inr (.inr (.inr ⟨hf, hi, p, _, rfl⟩))
  | dividedBoth rd rd2 q r p hf hi => exact .inr (.inr (.inr ⟨hf, hi, p, _, rfl⟩))

/-- Settles O18: of the steps only a change of RESET and a command change STATUS or FCMD, and a command only by the last
three of `CommandEffect.record_cases`. -/
theorem statusChangesOnlyByFaultDivisionOrReset : Obligations.StatusChangesOnlyByFaultDivisionOrReset := by
  intro s t h hne
  have hkept : ¬(t.status = s.status ∧ t.fcmd = s.fcmd) := not_and_or.2 hne
  cases step_effect h with
  | idle | dropped | ignoredUndecodable | releasedIdle => exact absurd ⟨rfl, rfl⟩ hkept
  | asserted rest hin => exact .inl ⟨rest, .inl hin⟩
  | released rest hin hp => exact .inl ⟨rest, .inr ⟨hp, hin⟩⟩
  | raisedUndecodable w d rest e hin hp _ hf =>
    exact .inr ⟨w, d, rest, hin, hp, hf, .inr (.inl (raiseFault_entered .illegalCommand _))⟩
  | ran w d rest i _ hin hp hd hx =>
    rcases (exec_effect hx).record_cases with hsame | ⟨hf, -, rfl⟩ | ⟨hf, -, -, rfl⟩ | ⟨hf, hi, p, regs, rfl⟩
    · exact absurd hsame hkept
    · exact .inr ⟨w, d, rest, hin, hp, hf, .inr (.inl (raiseFault_entered .illegalCommand _))⟩
    · exact .inr ⟨w, d, rest, hin, hp, hf, .inl (raiseFault_entered .divideByZero _)⟩
    · exact .inr ⟨w, d, rest, hin, hp, hf, .inr (.inr ⟨i, pathCode p, hd, hi, (pathCode_range p).1,
        (pathCode_range p).2, setDpath_divided p _ regs⟩)⟩

/-! The invariant, by what it depends on: STATUS, FCMD and the level of RESET. -/

theorem Inv.congr {s t : State} (hs : Inv s) (hstatus : t.status = s.status) (hfcmd : t.fcmd = s.fcmd)
    (hpin : t.resetPin = s.resetPin) : Inv t := by
  obtain ⟨v, status, fcmd, pin, cmd, din, dout, input⟩ := t
  cases hstatus; cases hfcmd; cases hpin
  exact ⟨hs.reserved, hs.cause, hs.dpath, hs.faulted, hs.fcmdClear, hs.illegal, hs.division, hs.inReset⟩

/-- STATUS and FCMD are 0 right after RESET, at either level of the pin (R154). -/
theorem inv_of_record_zero {s : State} (hstatus : s.status = 0) (hfcmd : s.fcmd = 0) : Inv s where
  reserved := by rw [hstatus]; rfl
  cause := by rw [hstatus]; decide
  dpath := by rw [hstatus]; decide
  faulted := by rw [State.faulted, hstatus]; decide
  fcmdClear _ := hfcmd
  illegal h := absurd (hstatus ▸ h) (by decide)
  division h := absurd (hstatus ▸ h) (by decide)
  inReset _ := ⟨hstatus, hfcmd⟩

/-- What FCMD records of a fault: for IllegalCommand an illegal word, for DivideByZero the word of a legal division. -/
def Records : FaultCause → BitVec 32 → Prop
  | .illegalCommand, w => illegalWord w = true
  | .divideByZero, w => divisionWord w

theorem causeCode_ne_zero (c : FaultCause) : causeCode c ≠ 0 := by cases c <;> decide

theorem causeCode_le (c : FaultCause) : (causeCode c).toNat ≤ 2 := by cases c <;> decide

/-- Fault entry keeps the invariant when the command word is one its cause records (R143, R146). -/
theorem Inv.raiseFault {s : State} (hs : Inv s) {c : FaultCause} (hc : Records c s.cmd) (hp : s.resetPin = false) :
    Inv (raiseFault c s) where
  reserved := (statusReserved_withFault _ _).trans hs.reserved
  cause := by rw [raiseFault_status, statusCause_withFault]; exact causeCode_le c
  dpath := by rw [raiseFault_status, statusDpath_withFault]; exact hs.dpath
  faulted := by
    rw [raiseFault_status, statusCause_withFault]
    exact iff_of_true (raiseFault_faulted c s) (causeCode_ne_zero c)
  fcmdClear h := absurd ((raiseFault_faulted c s).symm.trans h) nofun
  illegal h := by
    rw [raiseFault_status, statusCause_withFault] at h
    cases c with
    | illegalCommand => exact hc
    | divideByZero => exact absurd h (by decide)
  division h := by
    rw [raiseFault_status, statusCause_withFault] at h
    cases c with
    | illegalCommand => exact absurd h (by decide)
    | divideByZero => exact hc
  inReset h := absurd (hp.symm.trans h) nofun

/-- A completed division keeps the invariant: its path code is at most 8 (R25). -/
theorem Inv.setDpath {s : State} (hs : Inv s) (p : DivPath) (hp : s.resetPin = false) : Inv (setDpath p s) where
  reserved := (statusReserved_withDpath _ _).trans hs.reserved
  cause := by rw [setDpath_status, statusCause_withDpath]; exact hs.cause
  dpath := by rw [setDpath_status, statusDpath_withDpath]; exact (pathCode_range p).2
  faulted := by rw [setDpath_faulted, setDpath_status, statusCause_withDpath]; exact hs.faulted
  fcmdClear h := hs.fcmdClear (setDpath_faulted p s ▸ h)
  illegal h := hs.illegal (by rwa [setDpath_status, statusCause_withDpath] at h)
  division h := hs.division (by rwa [setDpath_status, statusCause_withDpath] at h)
  inReset h := absurd (hp.symm.trans h) nofun

/-- A command that runs keeps RESET released. -/
theorem CommandEffect.resetPin_eq {i : Instr} {s t : State} (h : CommandEffect i s t) : t.resetPin = s.resetPin := by
  cases h <;> rfl

/-- A command keeps the invariant: what it raises is what its word records. -/
theorem CommandEffect.inv {i : Instr} {s t : State} (h : CommandEffect i s t) (hs : Inv s) (hp : s.resetPin = false)
    (hd : decode s.cmd = .ok i) : Inv t := by
  rcases h.record_cases with ⟨hstatus, hfcmd⟩ | ⟨-, hw, rfl⟩ | ⟨-, hw, hi, rfl⟩ | ⟨-, -, p, regs, rfl⟩
  · exact hs.congr hstatus hfcmd h.resetPin_eq
  · exact hs.raiseFault (c := .illegalCommand) ((illegalWord_of_decode hd).trans (by rw [hw]; rfl)) hp
  · exact hs.raiseFault (c := .divideByZero) ⟨i, hd, hi, hw⟩ hp
  · have hregs : Inv { s with v := regs, dout := none } := hs.congr rfl rfl rfl
    exact hregs.setDpath p hp

/-- Settles O16: `State.reset` is a state right after RESET. -/
theorem resetHasTheInvariant : Obligations.ResetHasTheInvariant := inv_of_record_zero rfl rfl

/-- Settles O15, by the effect of the step: RESET gives the invariant afresh, a command that runs keeps it, an undecodable
word is an illegal one, and the other steps leave STATUS, FCMD and RESET alone. -/
theorem stepKeepsTheInvariant : Obligations.StepKeepsTheInvariant := by
  intro s t hs h
  cases step_effect h with
  | idle | dropped | ignoredUndecodable | releasedIdle => exact hs.congr rfl rfl rfl
  | asserted | released => exact inv_of_record_zero rfl rfl
  | ran w d rest i _ _ hp hd hx =>
    exact (exec_effect hx).inv (hs.congr rfl rfl rfl) hp hd
  | raisedUndecodable w d rest e _ hp hd =>
    have hsampled : Inv ({ s with input := rest }.sample w d) := hs.congr rfl rfl rfl
    exact hsampled.raiseFault (c := .illegalCommand) (illegalWord_of_decode_error hd) hp

end Sys2Proof.Machine

/-! What does not reach a command: DIN all but SETC, SETU and SETS, and the high word of the second operand register the 64-bit
entry forms (spec 10_state.md R29, 30_encoding.md R41). -/

namespace Sys2Proof.Machine

/-! DIN (R29). -/

/-- The effect of a command passes DIN through unread. -/
def DinBlind (e : State → State) : Prop := ∀ s d, e { s with din := d } = { e s with din := d }

/-- The meaning of an instruction passes DIN through unread. -/
def ExecDinBlind (i : Instr) : Prop :=
  ∀ s t d, exec i s = .next t → exec i { s with din := d } = .next { t with din := d }

theorem DinBlind.exec {i : Instr} {e : State → State} (he : DinBlind e) (hm : ∀ s, exec i s = unlessFaulted e s) :
    ExecDinBlind i := by
  intro s t d h
  rw [hm] at h ⊢
  rcases unlessFaulted_cases h with ⟨hf, rfl⟩ | ⟨hf, rfl⟩
  · exact unlessFaulted_of_faulted e hf
  · exact (unlessFaulted_of_running e (s := { s with din := d }) hf).trans (congrArg _ (he s d))

theorem dinBlind_finishDivision {engine : State → Option DivResult} {write : DivResult → State → State}
    (hengine : ∀ s d, engine { s with din := d } = engine s) (hwrite : ∀ r, DinBlind (write r)) :
    DinBlind fun s => finishDivision (engine s) write s := by
  intro s d
  dsimp only
  rw [hengine]
  cases engine s with
  | none => rfl
  | some r => exact congrArg (setDpath r.path) (hwrite r s d)

theorem dinBlind_combinedDivision {rd rd2 : Reg} {engine : State → Option DivResult}
    (hengine : ∀ s d, engine { s with din := d } = engine s) : DinBlind (combinedDivision rd rd2 engine) := by
  intro s d
  unfold combinedDivision
  split_ifs
  · rfl
  · exact dinBlind_finishDivision hengine (fun _ _ _ => rfl) s d

theorem dinBlind_ldk (rd : Reg) (k : BitVec 12) : ExecDinBlind (.ldk rd k) := by
  refine DinBlind.exec (fun s d => ?_) fun _ => rfl
  cases constant k <;> rfl

/-- Settles O20, by the shape of the command's meaning: RDST and the commands that end in `finish` or in a response read
registers only, and so do the division engines. -/
theorem dinReachesOnlyConstructors : Obligations.DinReachesOnlyConstructors := by
  intro i s t d hi
  revert s t d
  change ExecDinBlind i
  cases i with
  | setc rd => exact absurd ⟨rd, .inl rfl⟩ hi
  | setu rd => exact absurd ⟨rd, .inr (.inl rfl)⟩ hi
  | sets rd => exact absurd ⟨rd, .inr (.inr rfl)⟩ hi
  | ldk rd k => exact dinBlind_ldk rd k
  | rdst => intro s t d h; cases h; rfl
  | getc | getlo | mov | fitu64 | fits64
  | add | sub | mul | mulw | inc | dec
  | ucmp | eq | ult | ule | ugt | uge | scmp | slt | sle | sgt | sge
  | not | and | or | xor | shl | shr | shli | shri
  | lzcnt | tzcnt | popcnt | bitlen | bit | biti | bset | bclr | bseti | bclri
  | sign | neg | abs | absu
  | ucmp64 | ult64 | ule64 | ugt64 | uge64 | scmp64 | slt64 | sle64 | sgt64 | sge64 =>
    exact DinBlind.exec (fun _ _ => rfl) fun _ => rfl
  | udiv | umod | sdiv | smod | udiv64 | umod64 | sdiv64 | smod64 =>
    exact (dinBlind_finishDivision (fun _ _ => rfl) fun _ _ _ => rfl).exec fun _ => rfl
  | udivmod | sdivmod | udivmod64 | sdivmod64 =>
    exact (dinBlind_combinedDivision fun _ _ => rfl).exec fun _ => rfl

/-! The high word of the second operand register (R41). -/

/-- The two states agree in what a command can change or record, and in the registers of `p`. -/
structure AgreeOn (p : Reg → Prop) (s' s : State) : Prop where
  status : s'.status = s.status
  fcmd : s'.fcmd = s.fcmd
  cmd : s'.cmd = s.cmd
  dout : s'.dout = s.dout
  readV : ∀ r, p r → s'.readV r = s.readV r

section AgreeOn

variable {p q : Reg → Prop} {s' s : State}

theorem AgreeOn.mono (h : AgreeOn p s' s) (hqp : ∀ r, q r → p r) : AgreeOn q s' s :=
  ⟨h.status, h.fcmd, h.cmd, h.dout, fun r hr => h.readV r (hqp r hr)⟩

theorem AgreeOn.respond (h : AgreeOn p s' s) (d : Option Value) : AgreeOn p (s'.respond d) (s.respond d) :=
  ⟨h.status, h.fcmd, h.cmd, rfl, h.readV⟩

theorem AgreeOn.writeV (h : AgreeOn p s' s) (rd : Reg) (x : Value) :
    AgreeOn (fun r => r = rd ∨ p r) (s'.writeV rd x) (s.writeV rd x) := by
  refine ⟨h.status, h.fcmd, h.cmd, h.dout, fun r hr => ?_⟩
  rw [State.readV_writeV, State.readV_writeV]
  split_ifs with heq
  · rfl
  · exact h.readV r (hr.resolve_left heq)

theorem AgreeOn.raiseFault (h : AgreeOn p s' s) (c : FaultCause) : AgreeOn p (raiseFault c s') (raiseFault c s) :=
  ⟨congrArg (statusWithFault (causeCode c)) h.status, h.cmd, h.cmd, rfl, h.readV⟩

theorem AgreeOn.setDpath (h : AgreeOn p s' s) (path : DivPath) : AgreeOn p (setDpath path s') (setDpath path s) :=
  ⟨congrArg (statusWithDpath (pathCode path)) h.status, h.fcmd, h.cmd, h.dout, h.readV⟩

end AgreeOn

/-- `s` with the high word of `V[r]` replaced. -/
def State.withHighWord (s : State) (r : Reg) (x : Word) : State := s.writeV r ⟨x, (s.readV r).lo⟩

theorem readV_withHighWord_other (s : State) {r q : Reg} (x : Word) (h : q ≠ r) :
    (s.withHighWord r x).readV q = s.readV q := s.readV_writeV_other _ h

@[simp] theorem readV_withHighWord_lo (s : State) (r : Reg) (x : Word) :
    ((s.withHighWord r x).readV r).lo = (s.readV r).lo := by
  rw [State.withHighWord, State.readV_writeV_same]

theorem agreeOn_withHighWord (s : State) (r : Reg) (x : Word) : AgreeOn (· ≠ r) (s.withHighWord r x) s :=
  ⟨rfl, rfl, rfl, rfl, fun _ h => readV_withHighWord_other s x h⟩

/-- The operands of the entry forms (R41) do not depend on it. -/
@[simp] theorem readZext_withHighWord (s : State) (r : Reg) (x : Word) : (s.withHighWord r x).readZext r = s.readZext r :=
  congrArg zext128 (readV_withHighWord_lo s r x)

@[simp] theorem readSext_withHighWord (s : State) (r : Reg) (x : Word) : (s.withHighWord r x).readSext r = s.readSext r :=
  congrArg sext128 (readV_withHighWord_lo s r x)

/-- The registers whose value after a command that ended in `t` the high word of `V[rs2]` must not reach: all but `rs2`, and
`rs2` where the command wrote it. -/
def Determined (rs2 : Reg) (dests : List Reg) (t : State) (r : Reg) : Prop :=
  r ≠ rs2 ∨ (r ∈ dests ∧ t.faulted = false)

theorem Determined.ne_of_faulted {rs2 : Reg} {dests : List Reg} {t : State} {r : Reg} (h : Determined rs2 dests t r)
    (hf : t.faulted = true) : r ≠ rs2 :=
  h.resolve_right fun hd => absurd (hf.symm.trans hd.2) nofun

theorem Determined.mem_or_ne {rs2 : Reg} {dests : List Reg} {t : State} {r : Reg} (h : Determined rs2 dests t r) :
    r ∈ dests ∨ r ≠ rs2 :=
  h.elim .inr fun hd => .inl hd.1

/-- The effect of a command with the destinations `dests` ignores the high word of `V[rs2]`. -/
def HighWordBlind (rs2 : Reg) (dests : List Reg) (e : State → State) : Prop :=
  ∀ s x, AgreeOn (Determined rs2 dests (e s)) (e (s.withHighWord rs2 x)) (e s)

section Shapes

variable {rd rd2 rs2 : Reg} {dests : List Reg}

theorem agreeOn_finish {p : Reg → Prop} {s' s : State} (h : AgreeOn p s' s) (x : Value) :
    AgreeOn (fun r => r ∈ [rd] ∨ p r) (finish rd x s') (finish rd x s) :=
  ((h.writeV rd x).respond none).mono fun r hr => by simpa using hr

theorem agreeOn_finishBoth {p : Reg → Prop} {s' s : State} (h : AgreeOn p s' s) (q r : Value) :
    AgreeOn (fun r => r ∈ [rd, rd2] ∨ p r) (finishBoth rd rd2 q r s') (finishBoth rd rd2 q r s) :=
  (((h.writeV rd q).writeV rd2 r).respond none).mono fun r hr => by
    simp only [List.mem_cons, List.not_mem_nil, or_false] at hr
    tauto

theorem highWordBlind_finish {x : State → Value} (hx : ∀ s w, x (s.withHighWord rs2 w) = x s) :
    HighWordBlind rs2 [rd] fun s => finish rd (x s) s := by
  intro s w
  dsimp only
  rw [hx]
  exact (agreeOn_finish (agreeOn_withHighWord s rs2 w) (x s)).mono fun _ => Determined.mem_or_ne

theorem highWordBlind_raiseFault (c : FaultCause) : HighWordBlind rs2 dests (raiseFault c) := fun s w =>
  ((agreeOn_withHighWord s rs2 w).raiseFault c).mono fun _ hr => hr.ne_of_faulted (raiseFault_faulted c s)

theorem highWordBlind_finishDivision {engine : State → Option DivResult} {write : DivResult → State → State}
    (hengine : ∀ s w, engine (s.withHighWord rs2 w) = engine s)
    (hwrite : ∀ d s' s, AgreeOn (· ≠ rs2) s' s → AgreeOn (fun r => r ∈ dests ∨ r ≠ rs2) (write d s') (write d s)) :
    HighWordBlind rs2 dests fun s => finishDivision (engine s) write s := by
  intro s w
  dsimp only
  rw [hengine]
  cases engine s with
  | none => exact highWordBlind_raiseFault .divideByZero s w
  | some d =>
    exact ((hwrite d _ s (agreeOn_withHighWord s rs2 w)).setDpath d.path).mono fun _ => Determined.mem_or_ne

theorem highWordBlind_combinedDivision {engine : State → Option DivResult}
    (hengine : ∀ s w, engine (s.withHighWord rs2 w) = engine s) :
    HighWordBlind rs2 [rd, rd2] (combinedDivision rd rd2 engine) := by
  intro s w
  unfold combinedDivision
  split_ifs
  · exact highWordBlind_raiseFault .illegalCommand s w
  · exact highWordBlind_finishDivision hengine (fun d _ _ h => agreeOn_finishBoth h d.q d.r) s w

end Shapes

/-- A command of the shape ignores the high word in the fault state too, where it is itself ignored. -/
theorem HighWordBlind.exec {rs2 : Reg} {i : Instr} {e : State → State} (he : HighWordBlind rs2 (destinations i) e)
    (hm : ∀ s, exec i s = unlessFaulted e s) {s t : State} (x : Word) (h : exec i s = .next t) :
    ∃ t', exec i (s.withHighWord rs2 x) = .next t' ∧ AgreeOn (Determined rs2 (destinations i) t) t' t := by
  rw [hm] at h ⊢
  rcases unlessFaulted_cases h with ⟨hf, rfl⟩ | ⟨hf, rfl⟩
  · exact ⟨_, unlessFaulted_of_faulted e hf,
      ((agreeOn_withHighWord s rs2 x).respond none).mono fun _ hr => hr.ne_of_faulted hf⟩
  · exact ⟨_, unlessFaulted_of_running e hf, he s x⟩

/-- Settles O21: each of the sixteen reads `V[rs1]` and the low word of `V[rs2]`, and ends in `finish`, in a division with one
destination, or in a combined divide. -/
theorem entryForms64IgnoreTheHighWord : Obligations.EntryForms64IgnoreTheHighWord := by
  intro rd rd2 rs1 rs2 s t x i hne hi h
  have hread := fun s w => readV_withHighWord_other s w hne
  have hblind : ∃ e, (∀ s, exec i s = unlessFaulted e s) ∧ HighWordBlind rs2 (destinations i) e := by
    cases i with
    | ucmp64 | ult64 | ule64 | ugt64 | uge64 | scmp64 | slt64 | sle64 | sgt64 | sge64 =>
      obtain ⟨rfl, rfl, rfl⟩ := by simpa using hi
      exact ⟨_, fun _ => rfl, highWordBlind_finish fun s w => by simp [hread]⟩
    | udiv64 | umod64 | sdiv64 | smod64 =>
      obtain ⟨rfl, rfl, rfl⟩ := by simpa using hi
      exact ⟨_, fun _ => rfl, highWordBlind_finishDivision (fun s w => by simp [hread]) fun _ _ _ hs =>
        agreeOn_finish hs _⟩
    | udivmod64 | sdivmod64 =>
      obtain ⟨rfl, rfl, rfl, rfl⟩ := by simpa using hi
      exact ⟨_, fun _ => rfl, highWordBlind_combinedDivision fun s w => by simp [hread]⟩
    | _ => simp at hi
  obtain ⟨e, hm, he⟩ := hblind
  obtain ⟨t', ht', hagree⟩ := he.exec hm x h
  exact ⟨t', ht', hagree.status, hagree.fcmd, hagree.dout, hagree.readV⟩

end Sys2Proof.Machine
